-- ==== Sys2Proof/Word.lean ====
section
/-! DEFINITION. The word types of the TS410: link and frame bytes, tick stamps, and the indices of the numbered resources (spec 00_scope, "Names"). -/

namespace Sys2Proof

/-- One byte of the command link or of a rack-bus or vehicle-network frame. -/
abbrev Byte := BitVec 8

/-- A value of the 10 MHz timebase, or of the 32-bit stimulus frame counter (R96, R73). -/
abbrev Stamp := BitVec 32

/-- A station index on the rack bus, 0 to 11. -/
abbrev StationIdx := Fin 12

/-- A prompt tag, 0 to 15 (R137). -/
abbrev Tag := Fin 16

/-- A check index, C0 to C47. -/
abbrev CheckIdx := Fin 48

/-- A stimulus channel, S0 to S7. -/
abbrev ChannelIdx := Fin 8

/-- A timed output, S0 to S5. -/
abbrev TimedIdx := Fin 6

/-- An observation line, L0 to L15. -/
abbrev LineIdx := Fin 16

/-- A pattern group, G0 to G3. -/
abbrev GroupIdx := Fin 4

/-- A measurement channel, M0 to M3. -/
abbrev MeasIdx := Fin 4

/-- A vehicle-network transmit slot, T0 to T23. -/
abbrev TxSlotIdx := Fin 24

/-- A vehicle-network receive filter, F0 to F15. -/
abbrev FilterIdx := Fin 16

/-- A running timer holds the ticks left before its expiry; a stopped timer is `none`. -/
abbrev Timer := Option Nat

end Sys2Proof
end

