-- ==== Sys2Proof/Config.lean ====
section
/-! DEFINITION. The constants of the TS410 that the manual fixes: its time units and the durations of its fixed timers. The manual leaves no value free, so there is no opaque constant here. -/

namespace Sys2Proof.Config

/-- Ticks of 100 ns in one millisecond (R96). -/
def ticksPerMs : Nat := 10000

/-- Ticks of 100 ns in one second. -/
def ticksPerS : Nat := 10000000

/-- Ticks in one rack-bus bit time of 4 µs (1.1). -/
def ticksPerBit : Nat := 40

/-- Bit times in one round of the idle count (R1). -/
def idleRound : Nat := 56

/-- The listen period, 250 ms (R13). -/
def listenTicks : Nat := 250 * ticksPerMs

/-- The beacon period, 100 ms (R14). -/
def beaconTicks : Nat := 100 * ticksPerMs

/-- The silence time of a peer, 300 ms (R16). -/
def silenceTicks : Nat := 300 * ticksPerMs

/-- The transition window of a supply switch, 5 ms (R37). -/
def transitionTicks : Nat := 5 * ticksPerMs

/-- The mismatch timer of a supply switch, 5 ms (R38). -/
def mismatchTicks : Nat := 5 * ticksPerMs

/-- The loss timer of a feeding source, 5 ms (R39). -/
def lossTicks : Nat := 5 * ticksPerMs

/-- The period of the current monitor, 1 ms (R40). -/
def sampleTicks : Nat := ticksPerMs

/-- The power-wait limit in ms (R46). -/
def powerWaitMs : Nat := 10000

/-- What a granted claim's expiry adds to its T_INRUSH, in ms (R44). -/
def expiryExtraMs : Nat := 50

/-- The overlap timer of a switch-over, 2 ms (R51). -/
def overlapTicks : Nat := 2 * ticksPerMs

/-- The confirmation timer of a switch-over, 5 ms (R51). -/
def confirmTicks : Nat := 5 * ticksPerMs

/-- The key settle time after a head change, 500 ms (R148). -/
def keySettleTicks : Nat := 500 * ticksPerMs

/-- The debounce time of a key, 20 ms (R149). -/
def keyDebounceTicks : Nat := 20 * ticksPerMs

/-- The largest current sample, 5 A in units of 10 µA (R40). -/
def maxCurrent : Nat := 500000

/-- Where the counts of matches, periods and edges saturate (R100, R106, R108, R123). -/
def countMax : Nat := 16777215

/-- The number of attempts after which a vetoed frame is abandoned (R10). -/
def maxAttempts : Nat := 8

end Sys2Proof.Config
end

