-- ==== Sys2Proof/Syntax.lean ====
section
/-! DEFINITION. The commands of the TS410: one constructor of `Instr` per row of spec/opcode_table.json. The table gives a row no operands, so each constructor carries what its rule takes from outside the part: the bytes of a link transaction, the sender and payload of a rack-bus frame, the input that changed, or the timer that expired. -/

namespace Sys2Proof

/-- The parameters of a command write (R173, R186): the parameter length byte, and the parameter bytes that were clocked. -/
structure Params where
  len   : Nat
  bytes : List Byte
  deriving DecidableEq, Repr

/-- A supply rail (3.1). -/
inductive Rail where
  | main
  | aux
  deriving DecidableEq, Repr

/-- The two seat sensors (2.1). -/
inductive SeatInput where
  | seatA
  | seatB
  deriving DecidableEq, Repr

/-- The two inputs that form the halt input (R21). -/
inductive HaltInput where
  | haltIn
  | estop
  deriving DecidableEq, Repr

/-- The keys that answer a prompt (8.3). -/
inductive AnswerKey where
  | ok
  | pass
  | fail
  deriving DecidableEq, Repr

/-- A raw input whose level the environment may change: a fixture input, a key, or the comparator output of an observation line. -/
inductive RawInput where
  | seat (i : SeatInput)
  | clampClosed
  | clampOpen
  | halt (i : HaltInput)
  | key (k : AnswerKey)
  | haltReset
  | line (l : LineIdx)
  deriving DecidableEq, Repr

/-- How an attempt on the vehicle network ended (5.2). -/
inductive AttemptEnd where
  | success
  | arbitrationLoss
  | transmitError
  | unacknowledged
  deriving DecidableEq, Repr

/-- A frame on the vehicle network as its fields (R77): format, identifier, the RTR bit, the length code as received, and the data bytes. -/
structure VnFrame where
  extended   : Bool
  identifier : Nat
  remote     : Bool
  lengthCode : Nat
  data       : List Byte
  deriving DecidableEq, Repr

/-- A frame of the rack bus as its parts (1.2, 11.1): the header, the payload bytes and the CRC. -/
structure RackFrame where
  header  : BitVec 16
  payload : List Byte
  crc     : BitVec 16
  deriving DecidableEq, Repr

/-- A sound frame, the HALT of station 0: what the part read where FRAME_VETOED does not say, since another station may veto a frame that this one found sound. -/
def RackFrame.halt0 : RackFrame := { header := 0x0020, payload := [], crc := 0xD151 }

/-- The levels on the input pins (00_scope, "Line summary"). `true` is the asserted level: high for the sensors and senses, open circuit for HALT_IN and ESTOP, pressed for the keys. -/
structure Pins where
  strapIndex  : BitVec 4
  strapPanel  : Bool
  seatA       : Bool
  seatB       : Bool
  clampClosed : Bool
  clampOpen   : Bool
  haltIn      : Bool
  estop       : Bool
  keyOk       : Bool
  keyPass     : Bool
  keyFail     : Bool
  keyHaltReset : Bool
  mainFb      : Bool
  auxFb       : Bool
  mainOk      : Bool
  auxOk       : Bool
  /-- The reading of the current shunt in units of 10 µA, before the saturation of R40. -/
  current     : Nat
  /-- The comparator outputs of L0 to L15, bit n for Ln. -/
  obs         : BitVec 16
  deriving DecidableEq, Repr

/-- The commands, in the order of spec/opcode_table.json. -/
inductive Instr where
  /-- POWER_ON_RESET (R19 and the reset rule of each chapter), with the pin levels at the end of the reset. -/
  | powerOnReset (pins : Pins)
  /-- RESET_LINE (R171 and the reset rule of each chapter), with the pin levels at the end of the reset. -/
  | resetLine (pins : Pins)
  /-- CONFIGURE (R181, R182). -/
  | configure (p : Params)
  /-- GET_STATUS (R183). -/
  | getStatus (p : Params)
  /-- READ_RECORDS (R175). -/
  | readRecords (p : Params)
  /-- READ_NEXT (R177). -/
  | readNext (p : Params)
  /-- WRITE_RECORDS of an unknown or read-only table (R176). -/
  | writeRecords (p : Params)
  /-- WRITE_RECORDS of CHECKS (R114). -/
  | writeChecks (p : Params)
  /-- WRITE_RECORDS of TX_SLOTS (R83, R84). -/
  | writeTxSlots (p : Params)
  /-- WRITE_RECORDS of RX_FILTERS (R93). -/
  | writeRxFilters (p : Params)
  /-- WRITE_RECORDS of MESSAGES (R150). -/
  | writeMessages (p : Params)
  /-- WRITE_RECORDS of PATTERN_GROUPS from records 0 to 3, or 20 to 23 (R100, R104). -/
  | writePatternGroups (p : Params)
  /-- WRITE_RECORDS of PATTERN_GROUPS from records 4 to 19 (R98). -/
  | writeLineConditioning (p : Params)
  /-- CLAMP (R25). -/
  | clamp (p : Params)
  /-- UNCLAMP (R27). -/
  | unclamp (p : Params)
  /-- POWER_ON (R46). -/
  | powerOn (p : Params)
  /-- POWER_OFF (R50). -/
  | powerOff (p : Params)
  /-- SWITCH_SOURCE (R51). -/
  | switchSource (p : Params)
  /-- SET_CHANNEL (R66). -/
  | setChannel (p : Params)
  /-- SET_DISCRETES (R67). -/
  | setDiscretes (p : Params)
  /-- HOLD_STAGING (R71). -/
  | holdStaging (p : Params)
  /-- RELEASE_STAGING (R71). -/
  | releaseStaging (p : Params)
  /-- VN_SEND_ONCE (R91). -/
  | vnSendOnce (p : Params)
  /-- CLEAR_PATTERN (R103). -/
  | clearPattern (p : Params)
  /-- ARM_CHECKS (R116). -/
  | armChecks (p : Params)
  /-- DISARM_CHECKS (R133). -/
  | disarmChecks (p : Params)
  /-- CLEAR_RESULTS (R134). -/
  | clearResults (p : Params)
  /-- PUBLISH_RESULT (R135). -/
  | publishResult (p : Params)
  /-- PROMPT (R138). -/
  | prompt (p : Params)
  /-- CANCEL_PROMPT (R141). -/
  | cancelPrompt (p : Params)
  /-- READ_EVENTS (R179). -/
  | readEvents (p : Params)
  /-- FAULT_RESUME (R166). -/
  | faultResume (p : Params)
  /-- FAULT_ABANDON (R167). -/
  | faultAbandon (p : Params)
  /-- UNKNOWN_COMMAND (R173): a command write with a code that names no command. -/
  | unknownCommand (code : Byte) (p : Params)
  /-- RESPONSE_READ (R174), with the number of bytes clocked after the kind byte. -/
  | responseRead (clocked : Nat)
  /-- TRANSACTION_DISCARDED (R172), with the bytes that were clocked. -/
  | transactionDiscarded (bytes : List Byte)
  /-- BUS_IDLE (R1): 8 consecutive recessive bit times have been seen. -/
  | busIdle
  /-- TRANSMIT_START (R4, R9): the idle count reaches the station's deferral position. -/
  | transmitStart
  /-- SIMULTANEOUS_INDEX_CLASH (R11): a dominant level read on a recessive bit of the own header. -/
  | simultaneousIndexClash
  /-- FRAME_VETOED (R2, R9, R10): the veto slot of the frame on the line read dominant; the frame as this station read it. -/
  | frameVetoed (frame : RackFrame := .halt0)
  /-- HALT_ACCEPTED (R158). -/
  | haltAccepted (sender : StationIdx)
  /-- HALT_CLEAR_ACCEPTED (R158). -/
  | haltClearAccepted (sender : StationIdx) (payload : List Byte)
  /-- SLOT_CLAIM_ACCEPTED (R42). -/
  | slotClaimAccepted (sender : StationIdx) (payload : List Byte)
  /-- SLOT_RELEASE_ACCEPTED (R42). -/
  | slotReleaseAccepted (sender : StationIdx)
  /-- PROMPT_ANSWER_ACCEPTED (R140). -/
  | promptAnswerAccepted (sender : StationIdx) (payload : List Byte)
  /-- PROMPT_SHOW_ACCEPTED (R142). -/
  | promptShowAccepted (sender : StationIdx) (payload : List Byte)
  /-- PROMPT_CANCEL_ACCEPTED (R145). -/
  | promptCancelAccepted (sender : StationIdx) (payload : List Byte)
  /-- PROMPT_REQ_ACCEPTED (R144). -/
  | promptReqAccepted (sender : StationIdx) (payload : List Byte)
  /-- RESULT_ACCEPTED (R153). -/
  | resultAccepted (sender : StationIdx) (payload : List Byte)
  /-- BEACON_ACCEPTED (R16). -/
  | beaconAccepted (sender : StationIdx) (payload : List Byte)
  /-- OUT_OF_CODE_FRAME_ACCEPTED (R185). -/
  | outOfCodeFrameAccepted (sender : StationIdx)
  /-- LISTEN_TIMER_EXPIRY (R13). -/
  | listenTimerExpiry
  /-- BEACON_TIMER_EXPIRY (R14). -/
  | beaconTimerExpiry
  /-- SILENCE_TIMER_EXPIRY (R16) of one peer. -/
  | silenceTimerExpiry (peer : StationIdx)
  /-- RAW_INPUT_CHANGE (R20): a raw input takes a level. -/
  | rawInputChange (input : RawInput) (level : Bool)
  /-- SEAT_DEBOUNCED_CHANGE (R24): a seat sensor's debounced level becomes `level`. -/
  | seatDebouncedChange (input : SeatInput) (level : Bool)
  /-- CLAMP_CLOSED_DEBOUNCED_CHANGE (R26, R33). -/
  | clampClosedDebouncedChange (level : Bool)
  /-- CLAMP_OPEN_DEBOUNCED_CHANGE (R28). -/
  | clampOpenDebouncedChange (level : Bool)
  /-- HALT_INPUT_CHANGE (R157): HALT_IN's or ESTOP's debounced level becomes `level`. -/
  | haltInputChange (input : HaltInput) (level : Bool)
  /-- KEY_PRESS (R149): a debounced press of OK, PASS or FAIL. -/
  | keyPress (key : AnswerKey)
  /-- HALT_RESET_PRESS (R159): a debounced press of HALT_RESET. -/
  | haltResetPress
  /-- MOTION_TIMER_EXPIRY (R26, R28). -/
  | motionTimerExpiry
  /-- TRANSITION_WINDOW_EXPIRY (R37). -/
  | transitionWindowExpiry (rail : Rail)
  /-- SWITCH_FEEDBACK_CHANGE (R38): a feedback sense takes a level. -/
  | switchFeedbackChange (rail : Rail) (level : Bool)
  /-- MISMATCH_TIMER_EXPIRY (R38). -/
  | mismatchTimerExpiry (rail : Rail)
  /-- SOURCE_GOOD_CHANGE (R39): a source-good sense takes a level. -/
  | sourceGoodChange (rail : Rail) (level : Bool)
  /-- LOSS_TIMER_EXPIRY (R39). -/
  | lossTimerExpiry (rail : Rail)
  /-- CURRENT_SAMPLE (R40, R41): the 1 ms sample, with the shunt's reading in units of 10 µA. -/
  | currentSample (reading : Nat)
  /-- CLAIM_EXPIRY (R44) of the entry of one station. -/
  | claimExpiry (station : StationIdx)
  /-- INRUSH_WINDOW_EXPIRY (R48). -/
  | inrushWindowExpiry
  /-- POWER_WAIT_TIMEOUT (R49). -/
  | powerWaitTimeout
  /-- OVERLAP_TIMER_EXPIRY (R52). -/
  | overlapTimerExpiry
  /-- CONFIRMATION_TIMER_EXPIRY (R52). -/
  | confirmationTimerExpiry
  /-- FRAME_BOUNDARY (R70). -/
  | frameBoundary
  /-- PERIOD_END (R60, R61) of one timed output. -/
  | periodEnd (channel : TimedIdx)
  /-- HIGH_PART_END (R60) of one timed output. -/
  | highPartEnd (channel : TimedIdx)
  /-- ONESHOT_END (R62) of one timed output. -/
  | oneshotEnd (channel : TimedIdx)
  /-- VN_DUE_TIME (R85, R88) of one transmit slot. -/
  | vnDueTime (slot : TxSlotIdx)
  /-- VN_LINE_FREE (R90). -/
  | vnLineFree
  /-- VN_ATTEMPT_END (R79). -/
  | vnAttemptEnd (outcome : AttemptEnd)
  /-- VN_FRAME_RECEIVED (R92): a frame of another node completes `after` ticks after the present instant. -/
  | vnFrameReceived (after : Nat) (frame : VnFrame)
  /-- VN_RECEIVE_ERROR (R80). -/
  | vnReceiveError
  /-- LINE_EDGE_ACCEPTED (R97): the conditioned levels of the lines in the set (bit n for Ln) change at one tick, `after` ticks after the present instant. -/
  | lineEdgeAccepted (after : Nat) (lines : BitVec 16)
  /-- CHANNEL_EDGE (R106, R108): the channel level of a lent measurement channel changes, `after` ticks after the present instant. -/
  | channelEdge (after : Nat) (channel : MeasIdx)
  /-- SETTLE_TIMER_EXPIRY (R118) of one check. -/
  | settleTimerExpiry (check : CheckIdx)
  /-- DEADLINE_EXPIRY (R119) of one check. -/
  | deadlineExpiry (check : CheckIdx)
  /-- WINDOW_CLOSE (R122) of one check. -/
  | windowClose (check : CheckIdx)
  /-- ANSWER_TIMER_EXPIRY (R141). -/
  | answerTimerExpiry
  /-- NOTICE_TIMER_EXPIRY (R146) of the entry of one station. -/
  | noticeTimerExpiry (station : StationIdx)
  /-- KEY_SETTLE_EXPIRY (R148). -/
  | keySettleExpiry
  /-- START_BIT_SEEN (R1). -/
  | startBitSeen
  deriving DecidableEq, Repr

end Sys2Proof
end

