-- ==== Sys2Proof/Decode.lean ====
section
/-! DEFINITION. The command that the bytes of a link transaction stand for (11.2), and the commands that a word spells by the bits of spec/opcode_table.json. -/

namespace Sys2Proof

/-! ## Link transactions (R172, R173, R186) -/

/-- The table code that a record write names, where it clocked one. -/
def tableCode (p : Params) : Option Nat := p.bytes.head?.map (·.toNat)

/-- The first index that a record write names; 0 where it clocked none. -/
def firstIndex (p : Params) : Nat := (p.bytes.getD 1 0).toNat

/-- A write of PATTERN_GROUPS from a line's record. -/
def fromLine (p : Params) : Bool := decide (4 ≤ firstIndex p) && decide (firstIndex p ≤ 19)

/-- The row of WRITE_RECORDS by the table it names: the five written tables have rows of their own (10.4). -/
def recordWrite (p : Params) : Instr :=
  match tableCode p with
  | some 1 => .writeChecks p
  | some 2 => .writeTxSlots p
  | some 3 => .writeRxFilters p
  | some 4 => .writeMessages p
  | some 5 => if fromLine p then .writeLineConditioning p else .writePatternGroups p
  | _ => .writeRecords p

/-- The command of a command write by its code: 1 to 25 in the order of the command table of 10.3, and no command for any other (R173, R186). -/
def writtenCommand (code : Byte) (p : Params) : Instr :=
  match code.toNat with
  | 1 => .configure p
  | 2 => .getStatus p
  | 3 => .readRecords p
  | 4 => .readNext p
  | 5 => recordWrite p
  | 6 => .clamp p
  | 7 => .unclamp p
  | 8 => .powerOn p
  | 9 => .powerOff p
  | 10 => .switchSource p
  | 11 => .setChannel p
  | 12 => .setDiscretes p
  | 13 => .holdStaging p
  | 14 => .releaseStaging p
  | 15 => .vnSendOnce p
  | 16 => .clearPattern p
  | 17 => .armChecks p
  | 18 => .disarmChecks p
  | 19 => .clearResults p
  | 20 => .publishResult p
  | 21 => .prompt p
  | 22 => .cancelPrompt p
  | 23 => .readEvents p
  | 24 => .faultResume p
  | 25 => .faultAbandon p
  | _ => .unknownCommand code p

/-- The command that the bytes clocked in a transaction stand for, judged at its rising CS_N (R172): 5A is a command write, of code, parameter length and parameters; A5 a response read. Bytes of another first byte, and a write without its code and length, are discarded. -/
def transactionCommand (bytes : List Byte) : Instr :=
  match bytes with
  | [] => .transactionDiscarded []
  | kind :: rest =>
    if kind = 0xA5 then .responseRead rest.length
    else if kind = 0x5A then
      match rest with
      | code :: len :: params => writtenCommand code { len := len.toNat, bytes := params }
      | _ => .transactionDiscarded bytes
    else .transactionDiscarded bytes

/-! ## Words of the opcode table -/

/-- The command that a word spells. The table gives no row any bits (spec/98_reader.md: 91 rows unread, none with fields), so no word spells a command; the bytes of a link transaction are `transactionCommand`'s. -/
def decodeTableWord (_nbits _w : Nat) : Option Instr := none

end Sys2Proof
end

