-- ==== Sys2Proof/Machine/State.lean ====
section
/-! DEFINITION. The state of one TS410 as plain data, block by block (spec 00_scope, "Block diagram"), the three outcomes' reasons, and the state after reset. -/

namespace Sys2Proof.Machine

/-! ## Names shared by the blocks -/

/-- The station mode (R155). -/
inductive Mode where
  | normal
  | halted
  | fault
  | lockout
  deriving DecidableEq, Repr

/-- The nest states (2.2), in the order of their beacon codes. -/
inductive NestState where
  | unconfigured
  | empty
  | seated
  | clamping
  | clamped
  | powerWait
  | powered
  | unclamping
  deriving DecidableEq, Repr

/-- The reported state of a station (R23): its nest state in NORMAL, and its mode otherwise. -/
inductive Reported where
  | nest (n : NestState)
  | halted
  | fault
  | lockout
  deriving DecidableEq, Repr

/-- The direction of a clamp motion (2.2). -/
inductive Direction where
  | closing
  | opening
  deriving DecidableEq, Repr

/-- The own claim state, also the slot state of a beacon (3.4). -/
inductive ClaimState where
  | none
  | waiting
  | granted
  deriving DecidableEq, Repr

/-- The kinds of prompt (R137). -/
inductive PromptKind where
  | action
  | judge
  | notice
  deriving DecidableEq, Repr

/-- The answers of a PROMPT_ANSWER (11.1). -/
inductive Answer where
  | ok
  | pass
  | fail
  deriving DecidableEq, Repr

/-- The station verdict (R135). NONE, before the first publication, is the absence of one. -/
inductive StationVerdict where
  | pass
  | marginal
  | fail
  | incomplete
  deriving DecidableEq, Repr

/-- The counts of the verdicts in a test record (R135). -/
structure Counts where
  pass     : Nat
  marginal : Nat
  fail     : Nat
  invalid  : Nat
  aborted  : Nat
  deriving DecidableEq, Repr

/-- The kinds of rack-bus frame, in kind order (1.2). -/
inductive FrameKind where
  | halt
  | haltClear
  | slotRelease
  | slotClaim
  | promptAnswer
  | promptShow
  | promptCancel
  | promptReq
  | result
  | beacon
  deriving DecidableEq, Repr

/-- The fields of a BEACON (R15). -/
structure Beacon where
  reported  : Reported
  haltInput : Bool
  panelRole : Bool
  slotState : ClaimState
  /-- The remaining inrush in ms. -/
  remaining : Nat
  tInrush   : Nat
  sMax      : Nat
  /-- The pending prompt's kind and whether it is URGENT; `none` when the prompt slot is empty. -/
  prompt    : Option (PromptKind × Bool)
  message   : Nat
  tag       : Tag
  serial    : Nat
  verdict   : Option StationVerdict
  deriving DecidableEq, Repr

/-- The payload of a rack-bus frame (11.1). A BEACON waiting in its transmit slot holds no payload (R7, R9), which is `beaconDue`. -/
inductive Payload where
  | halt
  | haltClear (force : Bool)
  | slotRelease
  | slotClaim (tInrush : Nat)
  | promptAnswer (station : StationIdx) (tag : Tag) (answer : Answer)
  | promptShow (entry : Option (StationIdx × Tag))
  | promptCancel (tag : Tag)
  | promptReq (kind : PromptKind) (urgent : Bool) (message : Nat) (tag : Tag) (duration : Nat)
  | result (serial : Nat) (verdict : StationVerdict) (counts : Counts)
  | beaconDue
  | beacon (b : Beacon)
  deriving DecidableEq, Repr

/-- The fault causes with their arguments (R163). -/
inductive Cause where
  | overcurrent (sample limit : Nat)
  | supplyFeedback (rail : Rail)
  | supplyLost (rail : Rail)
  | seatLost
  | clampLost
  | indexClash (sequential : Bool)
  | clampTimeout (dir : Direction)
  | rbAbandon (kind : FrameKind)
  | vnBusOff (tec recv : Nat)
  deriving DecidableEq, Repr

/-! ## RBC: rack bus controller -/

/-- The bus state (R1). -/
inductive BusState where
  | idle
  | busy
  deriving DecidableEq, Repr

/-- The transmitter states (1.7). -/
inductive TxMode where
  | unconfigured
  | listening
  | on
  | offClash
  | offStrap
  deriving DecidableEq, Repr

/-- A transmit slot (1.4). An IN_FLIGHT slot may hold a successor (R7), and a companion: the release or cancel that R8 holds for the frame on the line. -/
inductive TxSlot where
  | empty
  | pending (payload : Payload) (attempts : Nat)
  | inFlight (payload : Payload) (attempts : Nat) (successor : Option Payload) (companion : Bool)
  deriving DecidableEq, Repr

/-- One entry of the peer view (1.9). -/
structure PeerEntry where
  present : Bool
  beacon  : Option Beacon
  silence : Timer
  deriving DecidableEq, Repr

/-- The rack bus controller. -/
structure Rbc where
  bus         : BusState
  /-- The idle count, 0 to 55 (R1). -/
  idleCount   : Nat
  /-- Ticks into the present recessive bit time. -/
  bitTicks    : Nat
  courtesy    : Bool
  tx          : TxMode
  slots       : Vector TxSlot 10
  /-- The bits the station puts on the line, in line order (11.1), dominant `false`; `none` while it leaves the line recessive. -/
  driven      : Option (List Bool)
  /-- The station drove both bits of the latest veto slot dominant (R2); otherwise it left them recessive. -/
  veto        : Bool
  /-- The bus has been IDLE since the reset, so that a frame now heard was heard from its start bit (R19). -/
  synced      : Bool
  listenTimer : Timer
  beaconTimer : Timer
  peers       : Vector PeerEntry 12
  sEff        : Nat
  deriving DecidableEq, Repr

/-! ## NCU: nest control unit -/

/-- A debounced level with its debounce timer (R20). The raw level is the pin. -/
structure Debounced where
  level : Bool
  timer : Timer
  deriving DecidableEq, Repr

/-- A running clamp motion (2.2). The coil energized is the direction's. -/
structure ClampMotion where
  dir  : Direction
  left : Nat
  deriving DecidableEq, Repr

/-- The nest control unit. -/
structure Ncu where
  nest        : NestState
  motion      : Option ClampMotion
  seatA       : Debounced
  seatB       : Debounced
  clampClosed : Debounced
  clampOpen   : Debounced
  haltIn      : Debounced
  estop       : Debounced
  deriving DecidableEq, Repr

/-! ## DSU: DUT supply unit -/

/-- A supply switch: its commanded state, its transition window (R37), its mismatch timer (R38) and its source's loss timer (R39). -/
structure Switch where
  closed   : Bool
  window   : Timer
  mismatch : Timer
  loss     : Timer
  deriving DecidableEq, Repr

/-- An entry of the claim list (3.3). -/
structure ClaimEntry where
  station    : StationIdx
  tInrush    : Nat
  /-- Origin BEACON; otherwise CLAIM. -/
  fromBeacon : Bool
  expiry     : Timer
  deriving DecidableEq, Repr

/-- A switch-over in flight (3.5). -/
structure SwitchOver where
  target    : Rail
  old       : Rail
  overlap   : Timer
  confirm   : Timer
  confirmed : Bool
  deriving DecidableEq, Repr

/-- The DUT supply unit. -/
structure Dsu where
  main         : Switch
  aux          : Switch
  latestSample : Nat
  /-- Ticks before the next current sample (R40). -/
  sampleLeft   : Nat
  overCount    : Nat
  claims       : List ClaimEntry
  ownClaim     : ClaimState
  listed       : Bool
  requested    : Option Rail
  powerWait    : Timer
  inrush       : Timer
  switchOver   : Option SwitchOver
  deriving DecidableEq, Repr

/-! ## STU: stimulus unit -/

/-- The channel modes (R56). -/
inductive ChannelMode where
  | idle
  | freq
  | pwm
  | pulse
  | oneshot
  | value
  deriving DecidableEq, Repr

/-- What the generator of a timed output is doing: nothing, a period in progress with the figures it began with and the ticks left in it, or a one-shot pulse with the ticks left (4.3). -/
inductive Drive where
  | off
  | wave (period high left : Nat) (level : Bool)
  | shot (left : Nat)
  deriving DecidableEq, Repr

/-- A last-apply stamp: the frame counter and the timebase (R72). -/
structure ApplyStamp where
  frame : Stamp
  tick  : Stamp
  deriving DecidableEq, Repr

/-- A stimulus channel (R56). -/
structure Channel where
  mode      : ChannelMode
  freq      : Nat
  duty      : Nat
  count     : Nat
  width     : Nat
  value     : Int
  slew      : Nat
  link      : Bool
  workFreq  : Nat
  workValue : Int
  /-- Period P and high time in ticks. -/
  figures   : Option (Nat × Nat)
  realFreq  : Nat
  realDuty  : Nat
  realValue : Int
  /-- REALIZATION_CLAMPED. -/
  clamped   : Bool
  /-- The remaining count of a RUNNING burst; `none` is ENDED. -/
  burst     : Option Nat
  gated     : Bool
  stamp     : Option ApplyStamp
  drive     : Drive
  deriving DecidableEq, Repr

/-- A channel update: the present fields with their values (4.7). -/
structure ChannelUpdate where
  mode  : Option ChannelMode
  freq  : Option Nat
  duty  : Option Nat
  count : Option Nat
  width : Option Nat
  value : Option Int
  slew  : Option Nat
  link  : Option Bool
  deriving DecidableEq, Repr

/-- A discrete update: a mask and values (4.6). -/
structure DiscreteUpdate where
  mask   : BitVec 16
  values : BitVec 16
  deriving DecidableEq, Repr

/-- The states of the frame counter (R73). -/
inductive CounterState where
  | running
  | frozen
  | stopped
  deriving DecidableEq, Repr

/-- The stimulus unit. -/
structure Stu where
  channels      : Vector Channel 8
  next          : Vector (Option ChannelUpdate) 8
  second        : Vector (Option ChannelUpdate) 8
  discretes     : BitVec 16
  discreteStamp : Option ApplyStamp
  groupNext     : Option DiscreteUpdate
  groupSecond   : Option DiscreteUpdate
  hold          : Bool
  frame         : Stamp
  counter       : CounterState
  frameTimer    : Timer
  /-- Ticks since the latest frame boundary, or since the counter last entered RUNNING (R92). -/
  sinceBoundary : Nat
  deriving DecidableEq, Repr

/-! ## VNP: vehicle network port -/

/-- The port states (R78). -/
inductive PortState where
  | off
  | active
  | passive
  | busOff
  deriving DecidableEq, Repr

/-- A bound field of a transmit slot (5.3). -/
structure BoundField where
  source : ChannelIdx
  start  : Nat
  width  : Nat
  big    : Bool
  signed : Bool
  m      : Nat
  d      : Nat
  o      : Int
  deriving DecidableEq, Repr

/-- The state of a slot's instance, with its payload bits. An attempt that was ON_LINE when its slot was rewritten is `detached` (R84). -/
inductive Inst where
  | none
  | pending (data : BitVec 64)
  | onLine (data : BitVec 64) (detached : Bool)
  deriving DecidableEq, Repr

/-- A transmit slot of the vehicle network (5.3): definition and run-time fields. -/
structure VnSlot where
  enable    : Bool
  extended  : Bool
  identifier : Nat
  length    : Nat
  payload   : BitVec 64
  period    : Nat
  phase     : Nat
  bound     : Option BoundField
  /-- The rolling counter's start bit and width. -/
  counter   : Option (Nat × Nat)
  inst      : Inst
  /-- The held refresh, with its encoded value where the slot has a bound field (R89). -/
  held      : Option (Option Int)
  nextCount : Nat
  lastEnc   : Int
  /-- FIELD_CLAMPED. -/
  clamped   : Bool
  sent      : Nat
  due       : Timer
  deriving DecidableEq, Repr

/-- The format of a receive filter (R93). -/
inductive FilterFormat where
  | standard
  | extended
  | off
  deriving DecidableEq, Repr

/-- The latest record of a receive filter (R93). -/
structure LatestRecord where
  identifier : Nat
  data       : List Byte
  seq        : Nat
  frame      : Stamp
  offset     : Nat
  deriving DecidableEq, Repr

/-- A receive filter (R93). -/
structure RxFilter where
  format     : FilterFormat
  identifier : BitVec 32
  mask       : BitVec 32
  latest     : Option LatestRecord
  deriving DecidableEq, Repr

/-- An entry of the receive ring (R94). -/
structure RingEntry where
  seq        : Nat
  extended   : Bool
  identifier : Nat
  data       : List Byte
  filter     : Option FilterIdx
  frame      : Stamp
  offset     : Nat
  deriving DecidableEq, Repr

/-- The vehicle network port. -/
structure Vnp where
  port      : PortState
  tec       : Nat
  recv      : Nat
  scheduler : Bool
  slots     : Vector VnSlot 24
  filters   : Vector RxFilter 16
  ring      : List RingEntry
  /-- The reception sequence value the next received data frame takes. -/
  nextSeq   : Nat
  /-- The bits the port last put on the line, dominant `false`: a frame, an acknowledgement slot or an error flag (R77, R80, R92); `none` while it drives the line recessive. -/
  driven    : Option (List Bool)
  deriving DecidableEq, Repr

/-! ## RCU: response capture unit -/

/-- An accepted edge: stamp, and whether it is a RISE (R97). -/
structure Edge where
  tick : Stamp
  rise : Bool
  deriving DecidableEq, Repr

/-- An observation line (R97). The sample is the pin, inverted where `invert` is set. -/
structure Line where
  invert   : Bool
  filter   : Nat
  level    : Bool
  run      : Nat
  lastEdge : Option Edge
  deriving DecidableEq, Repr

/-- A term of a pattern group (6.4). -/
inductive Term where
  | ignore
  | low
  | high
  | rise
  | fall
  | change
  deriving DecidableEq, Repr

/-- The stamps of a match or snapshot: timebase and frame counter (R102). -/
structure MatchStamp where
  tick  : Stamp
  frame : Stamp
  deriving DecidableEq, Repr

/-- A pattern group (R100). -/
structure Group where
  terms    : Vector Term 16
  latched  : Bool
  mark     : Bool
  count    : Nat
  first    : Option MatchStamp
  last     : Option MatchStamp
  snapshot : Option (BitVec 16 × MatchStamp)
  deriving DecidableEq, Repr

/-- The open window of a measurement channel, with the accumulators of both modes (R105, R106, R108). -/
structure MeasWindow where
  openTick  : Stamp
  /-- The window's length in ticks. -/
  span      : Nat
  openLevel : Bool
  edgeSeen  : Bool
  first     : Option Stamp
  last      : Stamp
  n         : Nat
  h         : Nat
  /-- The running high time from the first reference edge, and the stamp up to which it is counted. -/
  runHigh   : Nat
  runTick   : Stamp
  count     : Nat
  reached   : Bool
  overrange : Bool
  deriving DecidableEq, Repr

/-- What a LENT measurement channel holds (R104). -/
structure Lent where
  holder : CheckIdx
  line   : LineIdx
  /-- The reference edge is RISE. -/
  rise   : Bool
  filter : Nat
  /-- The mode is COUNT; otherwise FREQ_DUTY. -/
  counts : Bool
  theta  : Option Nat
  level  : Bool
  run    : Nat
  window : Option MeasWindow
  /-- The stamps of channel edges taken at or after the close tick of a window whose close is not yet taken; they belong to the next window (R105). -/
  late   : List Stamp
  deriving DecidableEq, Repr

/-- The response capture unit. A FREE measurement channel is `none`. -/
structure Rcu where
  timebase : Stamp
  lines    : Vector Line 16
  groups   : Vector Group 4
  meas     : Vector (Option Lent) 4
  deriving DecidableEq, Repr

/-! ## CKE: check evaluator -/

/-- The check kinds (R113), in the order of their codes. -/
inductive CheckKind where
  | none
  | freq
  | duty
  | count
  | level
  | pattern
  | vnField
  | current
  | operator
  deriving DecidableEq, Repr

/-- The definition part of a check (R113). A field that the kind does not use is stored as written, so the fields hold the written numbers (11.4). -/
structure CheckDef where
  kind     : CheckKind
  channel  : Nat
  line     : Nat
  edge     : Nat
  filter   : Nat
  /-- Θ; 0 is absent. -/
  theta    : Nat
  group    : Nat
  rxFilter : Nat
  start    : Nat
  width    : Nat
  big      : Bool
  signed   : Bool
  tolerate : Bool
  urgent   : Bool
  track    : Bool
  message  : Nat
  /-- The start condition's code, and its argument F, g or j. -/
  cond     : Nat
  condArg  : Nat
  settle   : Nat
  window   : Nat
  samples  : Nat
  deadline : Nat
  m        : Nat
  d        : Nat
  o        : Int
  /-- L, or abs_lo. -/
  limLo    : Int
  /-- H, or abs_hi. -/
  limHi    : Int
  pctLo    : Nat
  pctHi    : Nat
  trackCh  : Nat
  guard    : Int
  deriving DecidableEq, Repr

/-- The check states (7.2). -/
inductive CheckState where
  | idle
  | armed
  | settling
  | opened
  | done
  | aborted
  deriving DecidableEq, Repr

/-- The verdict of a sample or a check (R115). -/
inductive Verdict where
  | pass
  | marginal
  | fail
  | invalid
  | aborted
  deriving DecidableEq, Repr

/-- The causes of an abort (R131). -/
inductive AbortCause where
  | powerOff
  | halt
  | fault
  | disarm
  deriving DecidableEq, Repr

/-- The flags of a sample or a result (7.4 to 7.6). -/
structure Flags where
  overrange    : Bool
  static       : Bool
  noSignal     : Bool
  disturbed    : Bool
  timeout      : Bool
  saturated    : Bool
  guardClamped : Bool
  late         : Bool
  deriving DecidableEq, Repr

/-- An entry of a sample list (R115). -/
structure Sample where
  verdict : Verdict
  eng     : Option Int
  flags   : Flags
  deriving DecidableEq, Repr

/-- A hit of a receive filter as it is handed to the CKE (R93): the filter, the received identifier, the data bytes, whose number is the length, and the timebase value at the frame's completion. -/
structure Hit where
  filter     : FilterIdx
  identifier : Nat
  data       : List Byte
  tick       : Stamp
  deriving DecidableEq, Repr

/-- The running raw figure of a window of kind PATTERN, VN_FIELD or CURRENT (R115, R123). -/
structure RawFigure where
  matchCount : Nat
  overrange  : Bool
  hit        : Option Hit
  sum        : Nat
  number     : Nat
  deriving DecidableEq, Repr

/-- The open window of a check (R122). -/
structure CheckWindow where
  openTick   : Stamp
  /-- Ticks before the close; `none` for OPERATOR. -/
  left       : Timer
  /-- The TRACK reference C. -/
  ref        : Option Int
  raw        : RawFigure
  /-- What was handed at or after the close tick before the close was taken: it belongs to the next window (R105, R124). -/
  spill      : RawFigure
  spillApply : Bool
  deriving DecidableEq, Repr

/-- The run-time part of an armed check (R115). -/
structure RunPart where
  /-- The arming sequence value; with the check's index it is the arming number (R116). -/
  armSeq   : BitVec 48
  start    : Option ApplyStamp
  settle   : Timer
  deadline : Timer
  /-- The settle time has ended and the check waits for its channel or the prompt slot (R118). -/
  waiting  : Bool
  samples  : List Sample
  window   : Option CheckWindow
  deriving DecidableEq, Repr

/-- The result part of an ended check (R115). -/
structure ResultPart where
  verdict  : Verdict
  cause    : Option AbortCause
  samples  : List Sample
  valid    : Nat
  k        : Nat
  value    : Option Int
  minimum  : Option Int
  maximum  : Option Int
  flags    : Flags
  frame    : Stamp
  tick     : Stamp
  deriving DecidableEq, Repr

/-- A check. Its result part stands in its entry of the test record. -/
structure Check where
  defn  : CheckDef
  state : CheckState
  run   : Option RunPart
  deriving DecidableEq, Repr

/-- An entry of the test record: the check, its kind and its result part (R130). -/
structure RecordEntry where
  check  : CheckIdx
  kind   : CheckKind
  result : ResultPart
  deriving DecidableEq, Repr

/-- The check evaluator. The wait list of a channel is the SETTLING checks that wait for it, in arming order (R120). -/
structure Cke where
  checks   : Vector Check 48
  armSeq   : BitVec 48
  record   : List RecordEntry
  verdict  : Option StationVerdict
  serial   : Nat
  /-- RETAINED: the record, verdict and serial were kept across the reset line (R136). -/
  retained : Bool
  deriving DecidableEq, Repr

/-! ## PRS: prompt service -/

/-- The occupied prompt slot (R137). -/
structure PromptSlot where
  /-- The OPERATOR check that holds the slot; `none` is the host. -/
  holder   : Option CheckIdx
  kind     : PromptKind
  urgent   : Bool
  message  : Nat
  tag      : Tag
  duration : Nat
  /-- The answer timer; it runs in WAITING and only there. -/
  answer   : Timer
  shown    : Bool
  deriving DecidableEq, Repr

/-- An entry of the panel's prompt queue (8.2). -/
structure QueueEntry where
  station  : StationIdx
  kind     : PromptKind
  urgent   : Bool
  message  : Nat
  tag      : Tag
  duration : Nat
  notice   : Timer
  deriving DecidableEq, Repr

/-- An entry of the results board (R153). -/
structure BoardEntry where
  serial   : Nat
  verdict  : StationVerdict
  counts   : Option Counts
  /-- The source is RESULT; otherwise BEACON. -/
  fromResult : Bool
  stale    : Bool
  deriving DecidableEq, Repr

/-- The prompt service. The display is computed from it (R147). -/
structure Prs where
  slot       : Option PromptSlot
  tagCounter : Tag
  closedTag  : Option Tag
  queue      : List QueueEntry
  role       : Bool
  /-- The panel role was given up (R152). -/
  yielded    : Bool
  messages   : Vector (List Byte) 128
  board      : Vector (Option BoardEntry) 12
  keySettle  : Timer
  keyOk      : Debounced
  keyPass    : Debounced
  keyFail    : Debounced
  keyHaltReset : Debounced
  deriving DecidableEq, Repr

/-! ## HFU: halt and fault unit -/

/-- The contents of the fault record (R165). -/
structure FaultEntry where
  cause       : Cause
  entryMode   : Mode
  haltFlag    : Bool
  nest        : NestState
  mainClosed  : Bool
  auxClosed   : Bool
  frame       : Stamp
  sample      : Nat
  tick        : Stamp
  aborted     : Nat
  lowest      : Option CheckIdx
  checkOpen   : Bool
  recoverable : Bool
  second      : Option (Cause × Stamp)
  later       : Nat
  deriving DecidableEq, Repr

/-- The states of the fault record (R165). -/
inductive RecordState where
  | none
  | opened
  | closed
  | retained
  deriving DecidableEq, Repr

/-- The halt and fault unit. -/
structure Hfu where
  mode    : Mode
  /-- The halt-source set (R156). -/
  sources : Vector Bool 12
  /-- The own member of a station in OFF_STRAP. -/
  ownMark : Bool
  recState : RecordState
  entry   : Option FaultEntry
  deriving DecidableEq, Repr

/-! ## CML: command link and event queue -/

/-- The events with their arguments (10.5). -/
inductive Event where
  | seatChanged (seatA seatB clampClosed clampOpen : Bool) (nest : NestState)
  | clampDone (closed : Bool) (nest : NestState)
  | unclampDone (opened : Bool) (nest : NestState)
  | powerGranted (rail : Rail) (waited : Nat)
  | powerWaitTimeout (rail : Rail)
  | powerCancelled (rail : Rail)
  | switchDone (rail : Rail)
  | switchFailed (rail : Rail) (reason : Nat)
  | checkDone (check : CheckIdx) (verdict : Verdict) (valid : Nat)
  | countThreshold (check : CheckIdx) (channel : MeasIdx) (tick : Stamp)
  | promptAnswered (tag : Tag) (message : Nat) (answer : Answer)
  | promptTimeout (tag : Tag) (message : Nat) (notSent : Bool)
  | promptLateAnswer (tag : Tag) (answer : Answer)
  | panelYielded (station : StationIdx)
  | haltEntered (sources : Vector Bool 12) (ownMark : Bool) (nest : NestState)
  | haltCleared (nest : NestState)
  | faultEntered (cause : Cause) (recoverable : Bool) (nest : NestState)
  | lockoutEntered (cause second : Cause)
  | peerJoined (station : StationIdx)
  | peerLost (station : StationIdx)
  | configMismatch (sEff sMax : Nat)
  | rbTxAbandoned (kind : FrameKind)
  | vnStateChanged (old new : PortState) (tec recv : Nat)
  | eventsLost (number : Nat) (firstKind : Nat)
  deriving DecidableEq, Repr

/-- An event record: kind and argument, and the frame-counter stamp (10.5). -/
structure EventRecord where
  event : Event
  frame : Stamp
  deriving DecidableEq, Repr

/-- The statuses of a response (10.3), in the order of their codes. -/
inductive Status where
  | ok
  | okAdjusted
  | wrongState
  | busy
  | range
  | sourceNotReady
  | notRecoverable
  | notConfigured
  | alreadyConfigured
  | unknownCommand
  | lengthError
  | partialWrite
  | truncated
  deriving DecidableEq, Repr

/-- The tables (10.4), in the order of their codes 1 to 11. -/
inductive Table where
  | checks
  | txSlots
  | rxFilters
  | messages
  | patternGroups
  | results
  | rxRing
  | peers
  | board
  | faultRecord
  | channels
  deriving DecidableEq, Repr

/-- The contents of the response buffer (R174). -/
structure Response where
  status : Status
  code   : Byte
  seq    : Nat
  data   : List Byte
  deriving DecidableEq, Repr

/-- The stored configuration (R181). -/
structure StationConfig where
  sMax        : Nat
  tInrush     : Nat
  iInrush     : Nat
  iRun        : Nat
  tripDelay   : Nat
  clampLimit  : Nat
  frameMs     : Nat
  promptTime  : Nat
  safePattern : BitVec 16
  bitRate     : Nat
  deriving DecidableEq, Repr

/-- The command link and event queue. -/
structure Cml where
  response : Option Response
  unread   : Bool
  cmdSeq   : Nat
  cursor   : Option (Table × Nat)
  /-- The event queue, oldest first. -/
  events   : List EventRecord
  config   : Option StationConfig
  strapIndex : BitVec 4
  strapPanel : Bool
  /-- The bytes last shifted out on MISO (R172, R174). -/
  miso     : List Byte
  deriving DecidableEq, Repr

/-! ## The station -/

/-- Why a command may fault. No rule of the spec stops the block, so there is no reason. -/
inductive Fault where
  deriving DecidableEq, Repr

/-- Why a command may be refused as a command. -/
inductive Refusal where
  /-- Raised by `exec` alone, for a command that has no meaning yet; safe. -/
  | notModelled (mnemonic : String)
  deriving DecidableEq, Repr

/-- One TS410: its input pins, its ten blocks, and the queue of commands that are waiting. -/
structure State where
  pins    : Pins
  rbc     : Rbc
  ncu     : Ncu
  dsu     : Dsu
  stu     : Stu
  vnp     : Vnp
  rcu     : Rcu
  cke     : Cke
  prs     : Prs
  hfu     : Hfu
  cml     : Cml
  pending : List Instr
  deriving DecidableEq, Repr

/-- The type of every meaning's answer. -/
abbrev Answered := Host.Outcome State Fault Refusal

def State.withPins (s : State) (x : Pins) : State := { s with pins := x }
def State.withRbc (s : State) (x : Rbc) : State := { s with rbc := x }
def State.withNcu (s : State) (x : Ncu) : State := { s with ncu := x }
def State.withDsu (s : State) (x : Dsu) : State := { s with dsu := x }
def State.withStu (s : State) (x : Stu) : State := { s with stu := x }
def State.withVnp (s : State) (x : Vnp) : State := { s with vnp := x }
def State.withRcu (s : State) (x : Rcu) : State := { s with rcu := x }
def State.withCke (s : State) (x : Cke) : State := { s with cke := x }
def State.withPrs (s : State) (x : Prs) : State := { s with prs := x }
def State.withHfu (s : State) (x : Hfu) : State := { s with hfu := x }
def State.withCml (s : State) (x : Cml) : State := { s with cml := x }
def State.withPending (s : State) (x : List Instr) : State := { s with pending := x }

/-! ## The state after reset -/

/-- The straps read 0 (internal pull-downs) and no input is asserted: what the model takes for the pins at `State.reset` (DESIGN CHOICE, log entry 2). -/
def Pins.quiet : Pins :=
  { strapIndex := 0, strapPanel := false, seatA := false, seatB := false, clampClosed := false, clampOpen := false,
    haltIn := false, estop := false, keyOk := false, keyPass := false, keyFail := false, keyHaltReset := false,
    mainFb := false, auxFb := false, mainOk := false, auxOk := false, current := 0, obs := 0 }

/-- A peer-view entry that is ABSENT (R19). -/
def PeerEntry.absent : PeerEntry := { present := false, beacon := none, silence := none }

/-- R19. -/
def Rbc.afterReset (strapIndex : BitVec 4) : Rbc :=
  { bus := .busy, idleCount := 0, bitTicks := 0, courtesy := false,
    tx := if strapIndex.toNat < 12 then .unconfigured else .offStrap,
    slots := Vector.replicate 10 .empty, driven := none, veto := false, synced := false, listenTimer := none, beaconTimer := none,
    peers := Vector.replicate 12 PeerEntry.absent, sEff := 0 }

/-- R20: a debounced level at reset is the raw level read there, with its timer stopped. -/
def Debounced.at (level : Bool) : Debounced := { level := level, timer := none }

/-- R36. ESTOP is read on a station strapped as panel station alone (R21). -/
def Ncu.afterReset (pins : Pins) : Ncu :=
  { nest := .unconfigured, motion := none, seatA := .at pins.seatA, seatB := .at pins.seatB,
    clampClosed := .at pins.clampClosed, clampOpen := .at pins.clampOpen, haltIn := .at pins.haltIn,
    estop := .at (pins.strapPanel && pins.estop) }

/-- A switch commanded OPEN with no timer running (R55). -/
def Switch.resting : Switch := { closed := false, window := none, mismatch := none, loss := none }

/-- R55. -/
def Dsu.afterReset : Dsu :=
  { main := .resting, aux := .resting, latestSample := 0, sampleLeft := Config.sampleTicks, overCount := 0, claims := [],
    ownClaim := .none, listed := false, requested := none, powerWait := none, inrush := none, switchOver := none }

/-- The idle values of a channel (R56); the last-apply stamp is absent at reset. -/
def Channel.idle : Channel :=
  { mode := .idle, freq := 0, duty := 0, count := 1, width := 1, value := 0, slew := 0, link := false, workFreq := 0,
    workValue := 0, figures := none, realFreq := 0, realDuty := 0, realValue := 0, clamped := false, burst := none,
    gated := false, stamp := none, drive := .off }

/-- R76. -/
def Stu.afterReset : Stu :=
  { channels := Vector.replicate 8 .idle, next := Vector.replicate 8 none, second := Vector.replicate 8 none,
    discretes := 0, discreteStamp := none, groupNext := none, groupSecond := none, hold := false, frame := 0,
    counter := .stopped, frameTimer := none, sinceBoundary := 0 }

/-- The reset values of a transmit slot (5.3). -/
def VnSlot.blank : VnSlot :=
  { enable := false, extended := false, identifier := 0, length := 0, payload := 0, period := 0, phase := 0,
    bound := none, counter := none, inst := .none, held := none, nextCount := 0, lastEnc := 0, clamped := false,
    sent := 0, due := none }

/-- R95: a receive filter after reset. -/
def RxFilter.blank : RxFilter := { format := .off, identifier := 0, mask := 0, latest := none }

/-- R95. -/
def Vnp.afterReset : Vnp :=
  { port := .off, tec := 0, recv := 0, scheduler := false, slots := Vector.replicate 24 .blank,
    filters := Vector.replicate 16 .blank, ring := [], nextSeq := 0, driven := none }

/-- R112: a line after reset, its level the sample of its pin. -/
def Line.afterReset (sample : Bool) : Line := { invert := false, filter := 0, level := sample, run := 0, lastEdge := none }

/-- R100: a pattern group after reset. -/
def Group.blank : Group :=
  { terms := Vector.replicate 16 .ignore, latched := false, mark := false, count := 0, first := none, last := none,
    snapshot := none }

/-- R112. -/
def Rcu.afterReset (obs : BitVec 16) : Rcu :=
  { timebase := 0, lines := Vector.ofFn (fun i => Line.afterReset (obs.getLsbD i.val)),
    groups := Vector.replicate 4 .blank, meas := Vector.replicate 4 none }

/-- R136: every definition takes kind NONE, its other fields at their lowest value or absent. -/
def CheckDef.blank : CheckDef :=
  { kind := .none, channel := 0, line := 0, edge := 0, filter := 0, theta := 0, group := 0, rxFilter := 0, start := 0,
    width := 1, big := false, signed := false, tolerate := false, urgent := false, track := false, message := 0,
    cond := 0, condArg := 0, settle := 0, window := 1, samples := 1, deadline := 0, m := 1, d := 1, o := -1000000,
    limLo := -2147483648, limHi := -2147483648, pctLo := 0, pctHi := 0, trackCh := 0, guard := 0 }

/-- A check that is IDLE with no definition. -/
def Check.blank : Check := { defn := .blank, state := .idle, run := none }

/-- R136, power-on reset. -/
def Cke.afterReset : Cke :=
  { checks := Vector.replicate 48 .blank, armSeq := 0, record := [], verdict := none, serial := 0, retained := false }

/-- R154. -/
def Prs.afterReset (pins : Pins) : Prs :=
  { slot := none, tagCounter := 0, closedTag := none, queue := [], role := false, yielded := false,
    messages := Vector.replicate 128 [], board := Vector.replicate 12 none, keySettle := none,
    keyOk := .at pins.keyOk, keyPass := .at pins.keyPass, keyFail := .at pins.keyFail,
    keyHaltReset := .at pins.keyHaltReset }

/-- R156, R171: the own member is entered at the end of the reset if the halt input formed there (R21) is active. -/
def Hfu.afterReset (pins : Pins) : Hfu :=
  let active := pins.haltIn || (pins.strapPanel && pins.estop)
  { mode := .normal, sources := Vector.ofFn (fun i => active && decide (i.val = pins.strapIndex.toNat)),
    ownMark := active && decide (12 ≤ pins.strapIndex.toNat), recState := .none, entry := none }

/-- R184. -/
def Cml.afterReset (pins : Pins) : Cml :=
  { response := none, unread := false, cmdSeq := 0, cursor := none, events := [], config := none,
    strapIndex := pins.strapIndex, strapPanel := pins.strapPanel, miso := [] }

/-- The station at the end of a power-on reset with these pin levels, and no command waiting. -/
def State.ofPins (pins : Pins) : State :=
  { pins := pins, rbc := .afterReset pins.strapIndex, ncu := .afterReset pins, dsu := .afterReset, stu := .afterReset,
    vnp := .afterReset, rcu := .afterReset pins.obs, cke := .afterReset, prs := .afterReset pins,
    hfu := .afterReset pins, cml := .afterReset pins, pending := [] }

/-- The machine right after reset. -/
def State.reset : State := State.ofPins Pins.quiet

end Sys2Proof.Machine
end

