-- ==== Sys2Proof/Machine/Flags.lean ====
section
/-! DEFINITION. The arithmetic of the manual: rounding, realization (4.2), field encoding and placement (R86, R87), frame CRCs (R185, R77), and the flags, verdicts and figures of samples, checks and stations (7.5, 7.6, R135). -/

namespace Sys2Proof.Machine

/-! ## Rounding and clamping (00_scope, "Arithmetic") -/

/-- Round half up of `a / b`, for unsigned quantities. -/
def roundHalfUp (a b : Nat) : Nat := (2 * a + b) / (2 * b)

/-- Round half away from zero of `a / b`, for signed quantities. -/
def roundHalfAway (a : Int) (b : Nat) : Int :=
  if 0 ≤ a then (roundHalfUp a.natAbs b : Int) else -(roundHalfUp a.natAbs b : Int)

/-- `x` clamped to the range `lo` to `hi`. -/
def clampNat (lo hi x : Nat) : Nat := if x < lo then lo else if hi < x then hi else x

/-- `x` clamped to the range `lo` to `hi`. -/
def clampInt (lo hi x : Int) : Int := if x < lo then lo else if hi < x then hi else x

/-- The least integer not below `a / b`. -/
def ceilDiv (a b : Nat) : Nat := (a + b - 1) / b

/-- The difference of two tick stamps, modulo 2^32 (R96). -/
def ticksBetween (earlier later : Stamp) : Nat := (later - earlier).toNat

/-! ## Bits -/

/-- `x` with bit `i` set to `b`. -/
def setBit (x : BitVec 64) (i : Nat) (b : Bool) : BitVec 64 :=
  if b then x ||| (1#64 <<< i) else x &&& ~~~(1#64 <<< i)

/-- A byte's bits, bit 7 first. -/
def byteBits (b : Byte) : List Bool := (List.range 8).map (fun i => b.getLsbD (7 - i))

/-- The low `n` bits of `x`, most significant first. -/
def natBits (n x : Nat) : List Bool := (List.range n).map (fun i => x.testBit (n - 1 - i))

/-- The bit of payload bytes at index `8k + b`: bit `b` of byte `k`. -/
def payloadBit (data : List Byte) (i : Nat) : Bool := (data.getD (i / 8) 0).getLsbD (i % 8)

/-- Byte `k` of eight payload bytes. -/
def payloadByte (x : BitVec 64) (k : Nat) : Byte := BitVec.ofNat 8 (x.toNat >>> (8 * k))

/-- The first `n` of the eight payload bytes. -/
def payloadBytes (x : BitVec 64) (n : Nat) : List Byte := (List.range n).map (payloadByte x)

/-- Eight payload bytes as 64 bits. -/
def bytesToPayload (data : List Byte) : BitVec 64 :=
  (List.range 64).foldl (fun x i => setBit x i (payloadBit data i)) 0

/-! ## CRCs -/

/-- One bit shifted into a CRC remainder, most significant first. -/
def crcStep {n : Nat} (poly r : BitVec n) (b : Bool) : BitVec n :=
  if r.msb != b then (r <<< 1) ^^^ poly else r <<< 1

/-- The rack-bus CRC over header and payload bits (R185). -/
def rackCrc (bits : List Bool) : BitVec 16 := bits.foldl (crcStep 0x5935#16) 0xFFFF#16

/-- The vehicle-network CRC over the bits from the start bit to the last data bit (R77). -/
def vnCrc (bits : List Bool) : BitVec 15 := bits.foldl (crcStep 0x4599#15) 0#15

/-- The bits of a rack-bus frame that its CRC covers. -/
def rackBits (header : BitVec 16) (payload : List Byte) : List Bool :=
  natBits 16 header.toNat ++ (payload.map byteBits).flatten

/-- Stuffing (5.1): after five equal bits in a row, one bit of the opposite level. -/
def stuffFrom (last : Bool) (run : Nat) : List Bool → List Bool
  | [] => []
  | b :: bs =>
    let run' := if b = last then run + 1 else 1
    if run' = 5 then b :: (!b) :: stuffFrom (!b) 1 bs else b :: stuffFrom b run' bs

/-- The bits of a data frame from its start bit to its last data bit, before stuffing (R77). -/
def vnBody (extended : Bool) (identifier : Nat) (data : List Byte) : List Bool :=
  let tail := natBits 4 data.length ++ (data.map byteBits).flatten
  if extended then
    [false] ++ natBits 11 (identifier / 2 ^ 18) ++ [true, true] ++ natBits 18 identifier ++ [false, false, false] ++ tail
  else
    [false] ++ natBits 11 identifier ++ [false, false, false] ++ tail

/-- The bits a data frame puts on the line (R77): the stuffed part, then the CRC delimiter, the acknowledgement slot and delimiter, and 7 end bits, all recessive from the sender. -/
def vnFrameBits (extended : Bool) (identifier : Nat) (data : List Byte) : List Bool :=
  let body := vnBody extended identifier data
  stuffFrom true 0 (body ++ natBits 15 (vnCrc body).toNat) ++ List.replicate 10 true

/-- An error frame (R77, R80): six flag bits, dominant in ACTIVE and recessive in PASSIVE, and eight recessive bits. -/
def errorFrameBits (active : Bool) : List Bool := List.replicate 6 (!active) ++ List.replicate 8 true

/-! ## Field placement and encoding (R86, R87) -/

/-- The payload bit that value bit `j` (0 the least significant) of a field of width `w` at start bit `s` occupies. -/
def fieldBit (big : Bool) (s w j : Nat) : Nat :=
  if big then
    let i := w - 1 - j
    let b := s % 8
    if i ≤ b then s - i
    else
      let r := i - (b + 1)
      8 * (s / 8 + 1 + r / 8) + (7 - r % 8)
  else s + j

/-- The field lies wholly within the first `n` bytes (R87). -/
def fieldFits (big : Bool) (s w n : Nat) : Bool :=
  if big then
    let b := s % 8
    let last := if w ≤ b + 1 then s / 8 else s / 8 + ceilDiv (w - b - 1) 8
    decide (last + 1 ≤ n)
  else decide (s + w ≤ 8 * n)

/-- The payload bits a field occupies. -/
def fieldBits (big : Bool) (s w : Nat) : List Nat := (List.range w).map (fieldBit big s w)

/-- A payload with the low `w` bits of `v` placed in a field (R87). -/
def placeField (x : BitVec 64) (big : Bool) (s w : Nat) (v : Nat) : BitVec 64 :=
  (List.range w).foldl (fun acc j => setBit acc (fieldBit big s w j) (v.testBit j)) x

/-- The number of width `w` that stands in a field of payload bytes. -/
def readFieldNat (data : List Byte) (big : Bool) (s w : Nat) : Nat :=
  (List.range w).foldl (fun acc j => if payloadBit data (fieldBit big s w j) then acc + 2 ^ j else acc) 0

/-- The value of a field: two's complement where it is signed (R123). -/
def readField (data : List Byte) (big signed : Bool) (s w : Nat) : Int :=
  let v := readFieldNat data big s w
  if signed && decide (2 ^ (w - 1) ≤ v) then (v : Int) - 2 ^ w else v

/-- The encoded value of a bound field and whether its clamp acted (R86). -/
def encodeBound (f : BoundField) (r : Int) : Int × Bool :=
  let enc := roundHalfAway (r * f.m) f.d + f.o
  let lo : Int := if f.signed then -(2 ^ (f.width - 1)) else 0
  let hi : Int := if f.signed then 2 ^ (f.width - 1) - 1 else 2 ^ f.width - 1
  let v := clampInt lo hi enc
  (v, decide (v ≠ enc))

/-- A payload with an encoded value placed in its bound field. -/
def placeBound (x : BitVec 64) (f : BoundField) (v : Int) : BitVec 64 :=
  placeField x f.big f.start f.width (v % 2 ^ f.width).toNat

/-! ## Realization (4.2) -/

/-- Period P of a requested frequency, and whether its clamp acted (R58). -/
def periodOf (f : Nat) : Option (Nat × Bool) :=
  if f = 0 then none
  else
    let p := roundHalfUp (10 ^ 9) f
    let c := clampNat 500 100000000 p
    some (c, decide (c ≠ p))

/-- The high time for a period and a duty, and whether its clamp acted (R59). -/
def highOf (p d : Nat) : Nat × Bool :=
  if d = 0 then (0, false)
  else if 10000 ≤ d then (p, false)
  else
    let h := roundHalfUp (p * d) 10000
    let c := clampNat 1 (p - 1) h
    (c, decide (c ≠ h))

/-- The realized duty for a period, high time and duty (R59). -/
def dutyOf (p h d : Nat) : Nat :=
  if d = 0 then 0 else if 10000 ≤ d then 10000 else roundHalfUp (h * 10000) p

/-- The realized state of a channel from its mode and parameters (R57 to R59). -/
def Channel.realize (c : Channel) : Channel :=
  let quiet := { c with figures := none, realFreq := 0, realDuty := 0, clamped := false }
  let wave (f d : Nat) : Channel :=
    match periodOf f with
    | none => { quiet with realValue := 0 }
    | some (p, pClamped) =>
      let (h, hClamped) := highOf p d
      let fr := roundHalfUp (10 ^ 9) p
      { c with figures := some (p, h), realFreq := fr, realDuty := dutyOf p h d, realValue := fr,
               clamped := pClamped || hClamped }
  match c.mode with
  | .idle => { quiet with realValue := 0 }
  | .freq => wave c.workFreq 5000
  | .pwm => wave c.freq c.duty
  | .pulse => wave c.freq c.duty
  | .oneshot => { quiet with realValue := c.width }
  | .value => { quiet with realValue := c.workValue }

/-! ## Flags -/

/-- No flag set. -/
def Flags.none : Flags :=
  { overrange := false, static := false, noSignal := false, disturbed := false, timeout := false, saturated := false,
    guardClamped := false, late := false }

/-- The union of two sets of flags. -/
def Flags.union (a b : Flags) : Flags :=
  { overrange := a.overrange || b.overrange, static := a.static || b.static, noSignal := a.noSignal || b.noSignal,
    disturbed := a.disturbed || b.disturbed, timeout := a.timeout || b.timeout, saturated := a.saturated || b.saturated,
    guardClamped := a.guardClamped || b.guardClamped, late := a.late || b.late }

/-- The flags that make a sample invalid (R128). -/
def Flags.invalid (f : Flags) : Bool := f.noSignal || f.disturbed || f.timeout

/-! ## Samples (7.5) -/

/-- The eng value of a raw figure, and whether it saturated (R126). -/
def engOf (d : CheckDef) (raw : Int) : Int × Bool :=
  let e := roundHalfAway (raw * d.m) d.d + d.o
  let c := clampInt (-2147483648) 2147483647 e
  (c, decide (c ≠ e))

/-- The band L, H of a sample with TRACK reference `c` (R127). -/
def bandOf (d : CheckDef) (c : Int) : Int × Int :=
  if d.track then
    (c - (d.limLo + roundHalfUp (c.natAbs * d.pctLo) 10000), c + (d.limHi + roundHalfUp (c.natAbs * d.pctHi) 10000))
  else (d.limLo, d.limHi)

/-- The guard of a sample in the band L, H, and whether it was clamped (R127). -/
def guardOf (d : CheckDef) (l h : Int) : Int × Bool :=
  if h - l < 2 * d.guard then ((h - l) / 2, true) else (d.guard, false)

/-- The verdict of an eng value in a band with a guard (R128). -/
def verdictOf (l h g eng : Int) : Verdict :=
  if l + g ≤ eng ∧ eng ≤ h - g then .pass else if l ≤ eng ∧ eng ≤ h then .marginal else .fail

/-- An invalid sample (R128). -/
def invalidSample (f : Flags) : Sample := { verdict := .invalid, eng := none, flags := f }

/-- The sample of a raw figure with its source's flags (R126 to R128). -/
def judgeSample (d : CheckDef) (ref : Option Int) (raw : Int) (f : Flags) : Sample :=
  if f.invalid then invalidSample f
  else
    let (eng, sat) := engOf d raw
    let (l, h) := bandOf d (ref.getD 0)
    let (g, gc) := guardOf d l h
    { verdict := verdictOf l h g eng, eng := some eng, flags := { f with saturated := sat, guardClamped := gc } }

/-! ## Aggregation (R129) -/

/-- The eng values of the valid samples, in order. -/
def validEngs (samples : List Sample) : List Int := samples.filterMap (·.eng)

/-- The worse of two verdicts of valid samples. -/
def Verdict.worse : Verdict → Verdict → Verdict
  | .fail, _ => .fail
  | _, .fail => .fail
  | .marginal, _ => .marginal
  | _, .marginal => .marginal
  | _, _ => .pass

/-- The verdict of a sample list of effective length K (R129). -/
def aggregateVerdict (k : Nat) (samples : List Sample) : Verdict :=
  let vs := samples.filter (fun x => decide (x.verdict ≠ .invalid))
  if vs.length < ceilDiv k 2 then .invalid else (vs.map (·.verdict)).foldl Verdict.worse .pass

/-- The value, minimum and maximum of the valid samples, absent when there is none (R129). -/
def figuresOf : List Int → Option (Int × Int × Int)
  | [] => none
  | e :: es =>
    some (roundHalfAway ((e :: es).foldl (· + ·) 0) (e :: es).length, es.foldl min e, es.foldl max e)

/-- The result part of a check that ends with these samples (R129, R131). `extra` holds the flag LATE where R119 sets it. -/
def resultPart (k : Nat) (samples : List Sample) (verdict : Verdict) (cause : Option AbortCause) (extra : Flags)
    (frame tick : Stamp) : ResultPart :=
  let engs := validEngs samples
  let fig := figuresOf engs
  { verdict := verdict, cause := cause, samples := samples, valid := engs.length, k := k,
    value := fig.map (·.1), minimum := fig.map (·.2.1), maximum := fig.map (·.2.2),
    flags := (samples.map (·.flags)).foldl Flags.union extra, frame := frame, tick := tick }

/-- The counts of the verdicts in a test record (R135). -/
def countVerdicts (r : List RecordEntry) : Counts :=
  let c (v : Verdict) := (r.filter (fun e => decide (e.result.verdict = v))).length
  { pass := c .pass, marginal := c .marginal, fail := c .fail, invalid := c .invalid, aborted := c .aborted }

/-- The station verdict (R135). -/
def stationVerdict (c : Counts) : StationVerdict :=
  if 0 < c.fail then .fail
  else if 0 < c.invalid ∨ 0 < c.aborted then .incomplete
  else if 0 < c.marginal then .marginal
  else if 0 < c.pass then .pass
  else .incomplete

/-! ## Results of a measurement window (R107, R108) -/

/-- Frequency, duty and flags of a FREQ_DUTY window at its close (R107). -/
def freqDutyResult (w : MeasWindow) : Nat × Nat × Flags :=
  let base := { Flags.none with overrange := w.overrange }
  if 1 ≤ w.n then
    let t := ticksBetween (w.first.getD 0) w.last
    (roundHalfUp (w.n * 10 ^ 9) t, roundHalfUp (w.h * 10000) t, base)
  else if w.edgeSeen then (0, 0, { base with noSignal := true })
  else (0, if w.openLevel then 10000 else 0, { base with static := true })

end Sys2Proof.Machine
end

