-- ==== Sys2Proof/Machine/Operands.lean ====
section
/-! DEFINITION. The layouts of chapter 11: codes, little-endian fields, the parameters of the commands, the written and returned table records, the event records, and the payloads of rack-bus frames. -/

namespace Sys2Proof.Machine

/-! ## Fields -/

/-- A little-endian field of bytes as a number (R186). -/
def leNat : List Byte → Nat
  | [] => 0
  | b :: bs => b.toNat + 256 * leNat bs

/-- The `n` bytes at offset `i` as a little-endian number. -/
def field (bs : List Byte) (i n : Nat) : Nat := leNat ((bs.drop i).take n)

/-- The 4 bytes at offset `i` as a signed number in two's complement. -/
def fieldS32 (bs : List Byte) (i : Nat) : Int := (BitVec.ofNat 32 (field bs i 4)).toInt

/-- A number as `n` little-endian bytes. -/
def leBytes : Nat → Nat → List Byte
  | 0, _ => []
  | n + 1, x => BitVec.ofNat 8 x :: leBytes n (x / 256)

/-- A signed number as `n` bytes in two's complement. -/
def leSigned (n : Nat) (x : Int) : List Byte := leBytes n (x % 2 ^ (8 * n)).toNat

/-- A mark as one byte, 1 when it is set and 0 when it is clear, also for the items whose values a table lists as 'set, clear' or 'yes, no' (R56, R165): R186 has a mark as one bit, and its list positions would give the other coding (DESIGN CHOICE, log entry 26). -/
def boolByte (b : Bool) : List Byte := [if b then 1 else 0]

/-- An item that may be absent, of `n` bytes (R186). -/
def optBytes (n : Nat) : Option (List Byte) → List Byte
  | some bs => 1 :: bs
  | none => 0 :: List.replicate n 0

/-- Bytes filled up with zeros to `n`. -/
def padTo (n : Nat) (bs : List Byte) : List Byte := (bs ++ List.replicate n 0).take n

/-- A set as one bit per member, bit 0 the first, in `n` bytes (R186). -/
def bitSet (n : Nat) (members : List Bool) : List Byte :=
  leBytes n (members.foldr (fun b acc => (if b then 1 else 0) + 2 * acc) 0)

/-- The whole ms left on a timer, rounded down. R48 says so of the remaining inrush; the other timer items of a record have no unit in the manual and take the same one (DESIGN CHOICE, log entry 7). -/
def msLeft (ticks : Nat) : Nat := ticks / Config.ticksPerMs

/-! ## Codes (chapter 11: the listed codes, else positions from 0) -/

def Mode.code : Mode → Nat
  | .normal => 0
  | .halted => 1
  | .fault => 2
  | .lockout => 3

def NestState.code : NestState → Nat
  | .unconfigured => 0
  | .empty => 1
  | .seated => 2
  | .clamping => 3
  | .clamped => 4
  | .powerWait => 5
  | .powered => 6
  | .unclamping => 7

def Reported.code : Reported → Nat
  | .nest n => n.code
  | .halted => 8
  | .fault => 9
  | .lockout => 10

def Reported.ofCode : Nat → Option Reported
  | 0 => some (.nest .unconfigured)
  | 1 => some (.nest .empty)
  | 2 => some (.nest .seated)
  | 3 => some (.nest .clamping)
  | 4 => some (.nest .clamped)
  | 5 => some (.nest .powerWait)
  | 6 => some (.nest .powered)
  | 7 => some (.nest .unclamping)
  | 8 => some .halted
  | 9 => some .fault
  | 10 => some .lockout
  | _ => none

def ClaimState.code : ClaimState → Nat
  | .none => 0
  | .waiting => 1
  | .granted => 2

def ClaimState.ofCode : Nat → Option ClaimState
  | 0 => some .none
  | 1 => some .waiting
  | 2 => some .granted
  | _ => Option.none

def PromptKind.code : PromptKind → Nat
  | .action => 1
  | .judge => 2
  | .notice => 3

def PromptKind.ofCode : Nat → Option PromptKind
  | 1 => some .action
  | 2 => some .judge
  | 3 => some .notice
  | _ => none

def Answer.code : Answer → Nat
  | .ok => 1
  | .pass => 2
  | .fail => 3

def Answer.ofCode : Nat → Option Answer
  | 1 => some .ok
  | 2 => some .pass
  | 3 => some .fail
  | _ => none

def StationVerdict.code : StationVerdict → Nat
  | .pass => 1
  | .marginal => 2
  | .fail => 3
  | .incomplete => 4

def StationVerdict.ofCode : Nat → Option StationVerdict
  | 1 => some .pass
  | 2 => some .marginal
  | 3 => some .fail
  | 4 => some .incomplete
  | _ => none

/-- The last verdict as a code, 0 for NONE. -/
def verdictCode (v : Option StationVerdict) : Nat := (v.map StationVerdict.code).getD 0

/-- The kind code of a frame (11.1). -/
def FrameKind.code : FrameKind → Nat
  | .halt => 1
  | .haltClear => 2
  | .slotRelease => 3
  | .slotClaim => 4
  | .promptAnswer => 5
  | .promptShow => 6
  | .promptCancel => 7
  | .promptReq => 8
  | .result => 9
  | .beacon => 10

/-- The class of a frame kind (1.2). -/
def FrameKind.cls : FrameKind → Nat
  | .halt => 0
  | .haltClear => 0
  | .slotRelease => 1
  | .slotClaim => 1
  | .promptAnswer => 1
  | .promptShow => 1
  | .promptCancel => 1
  | .promptReq => 1
  | .result => 2
  | .beacon => 2

/-- The payload length of a frame kind (1.2). -/
def FrameKind.length : FrameKind → Nat
  | .halt => 0
  | .haltClear => 1
  | .slotRelease => 0
  | .slotClaim => 2
  | .promptAnswer => 2
  | .promptShow => 1
  | .promptCancel => 1
  | .promptReq => 4
  | .result => 7
  | .beacon => 13

/-- The kind's transmit slot. -/
def FrameKind.idx : FrameKind → Fin 10
  | .halt => 0
  | .haltClear => 1
  | .slotRelease => 2
  | .slotClaim => 3
  | .promptAnswer => 4
  | .promptShow => 5
  | .promptCancel => 6
  | .promptReq => 7
  | .result => 8
  | .beacon => 9

/-- The kinds in kind order (R5). -/
def FrameKind.all : List FrameKind :=
  [.halt, .haltClear, .slotRelease, .slotClaim, .promptAnswer, .promptShow, .promptCancel, .promptReq, .result, .beacon]

def TxMode.code : TxMode → Nat
  | .unconfigured => 0
  | .listening => 1
  | .on => 2
  | .offClash => 3
  | .offStrap => 4

def railCode : Rail → Nat
  | .main => 1
  | .aux => 2

def railOf : Nat → Option Rail
  | 1 => some .main
  | 2 => some .aux
  | _ => none

def Direction.code : Direction → Nat
  | .closing => 0
  | .opening => 1

def PortState.code : PortState → Nat
  | .off => 0
  | .active => 1
  | .passive => 2
  | .busOff => 3

def CounterState.code : CounterState → Nat
  | .running => 0
  | .frozen => 1
  | .stopped => 2

def RecordState.code : RecordState → Nat
  | .none => 0
  | .opened => 1
  | .closed => 2
  | .retained => 3

def CheckState.code : CheckState → Nat
  | .idle => 0
  | .armed => 1
  | .settling => 2
  | .opened => 3
  | .done => 4
  | .aborted => 5

def Verdict.code : Verdict → Nat
  | .pass => 0
  | .marginal => 1
  | .fail => 2
  | .invalid => 3
  | .aborted => 4

def AbortCause.code : AbortCause → Nat
  | .powerOff => 0
  | .halt => 1
  | .fault => 2
  | .disarm => 3

def CheckKind.code : CheckKind → Nat
  | .none => 0
  | .freq => 1
  | .duty => 2
  | .count => 3
  | .level => 4
  | .pattern => 5
  | .vnField => 6
  | .current => 7
  | .operator => 8

def CheckKind.ofCode : Nat → Option CheckKind
  | 0 => some .none
  | 1 => some .freq
  | 2 => some .duty
  | 3 => some .count
  | 4 => some .level
  | 5 => some .pattern
  | 6 => some .vnField
  | 7 => some .current
  | 8 => some .operator
  | _ => Option.none

def ChannelMode.code : ChannelMode → Nat
  | .idle => 0
  | .freq => 1
  | .pwm => 2
  | .pulse => 3
  | .oneshot => 4
  | .value => 5

def ChannelMode.ofCode : Nat → Option ChannelMode
  | 0 => some .idle
  | 1 => some .freq
  | 2 => some .pwm
  | 3 => some .pulse
  | 4 => some .oneshot
  | 5 => some .value
  | _ => none

def FilterFormat.code : FilterFormat → Nat
  | .standard => 0
  | .extended => 1
  | .off => 2

def FilterFormat.ofCode : Nat → Option FilterFormat
  | 0 => some .standard
  | 1 => some .extended
  | 2 => some .off
  | _ => none

def Term.code : Term → Nat
  | .ignore => 0
  | .low => 1
  | .high => 2
  | .rise => 3
  | .fall => 4
  | .change => 5

def Term.ofCode : Nat → Option Term
  | 0 => some .ignore
  | 1 => some .low
  | 2 => some .high
  | 3 => some .rise
  | 4 => some .fall
  | 5 => some .change
  | _ => none

def Status.code : Status → Nat
  | .ok => 0
  | .okAdjusted => 1
  | .wrongState => 2
  | .busy => 3
  | .range => 4
  | .sourceNotReady => 5
  | .notRecoverable => 6
  | .notConfigured => 7
  | .alreadyConfigured => 8
  | .unknownCommand => 9
  | .lengthError => 10
  | .partialWrite => 11
  | .truncated => 12

def Table.ofCode : Nat → Option Table
  | 1 => some .checks
  | 2 => some .txSlots
  | 3 => some .rxFilters
  | 4 => some .messages
  | 5 => some .patternGroups
  | 6 => some .results
  | 7 => some .rxRing
  | 8 => some .peers
  | 9 => some .board
  | 10 => some .faultRecord
  | 11 => some .channels
  | _ => none

/-- The count of record indices of a table (10.4). -/
def Table.capacity : Table → Nat
  | .checks => 48
  | .txSlots => 24
  | .rxFilters => 16
  | .messages => 128
  | .patternGroups => 24
  | .results => 48
  | .rxRing => 32
  | .peers => 12
  | .board => 12
  | .faultRecord => 1
  | .channels => 9

/-- The size of a written record, where the table may be written (11.4). -/
def Table.recordSize : Table → Option Nat
  | .checks => some 51
  | .txSlots => some 31
  | .rxFilters => some 9
  | .messages => some 41
  | .patternGroups => some 17
  | _ => none

/-! ## Fault causes (R163) -/

/-- The cause is severe; otherwise contained. -/
def Cause.severe : Cause → Bool
  | .overcurrent _ _ => true
  | .supplyFeedback _ => true
  | .supplyLost _ => true
  | .seatLost => true
  | .clampLost => true
  | .indexClash _ => true
  | .clampTimeout _ => false
  | .rbAbandon _ => false
  | .vnBusOff _ _ => false

/-- The cause's position in the table of R163. -/
def Cause.code : Cause → Nat
  | .overcurrent _ _ => 0
  | .supplyFeedback _ => 1
  | .supplyLost _ => 2
  | .seatLost => 3
  | .clampLost => 4
  | .indexClash _ => 5
  | .clampTimeout _ => 6
  | .rbAbandon _ => 7
  | .vnBusOff _ _ => 8

/-- The cause's argument, filled up to the 6 bytes of the widest one (DEDUCED, log entry 7, since R186 has records of a fixed size). -/
def Cause.argBytes : Cause → Option (List Byte)
  | .overcurrent x l => some (leBytes 3 x ++ leBytes 3 l)
  | .supplyFeedback r => some (padTo 6 (leBytes 1 (railCode r)))
  | .supplyLost r => some (padTo 6 (leBytes 1 (railCode r)))
  | .seatLost => none
  | .clampLost => none
  | .indexClash q => some (padTo 6 (leBytes 1 (if q then 1 else 0)))
  | .clampTimeout d => some (padTo 6 (leBytes 1 d.code))
  | .rbAbandon k => some (padTo 6 (leBytes 1 k.code))
  | .vnBusOff t r => some (padTo 6 (leBytes 2 t ++ leBytes 1 r))

def classByte (c : Cause) : List Byte := boolByte (!c.severe)

/-! ## Rack-bus frames (11.1) -/

/-- The kind of a payload. -/
def Payload.kind : Payload → FrameKind
  | .halt => .halt
  | .haltClear _ => .haltClear
  | .slotRelease => .slotRelease
  | .slotClaim _ => .slotClaim
  | .promptAnswer _ _ _ => .promptAnswer
  | .promptShow _ => .promptShow
  | .promptCancel _ => .promptCancel
  | .promptReq _ _ _ _ _ => .promptReq
  | .result _ _ _ => .result
  | .beaconDue => .beacon
  | .beacon _ => .beacon

/-- A multi-byte payload field is sent most significant byte first. -/
def be16 (x : Nat) : List Byte := [BitVec.ofNat 8 (x / 256), BitVec.ofNat 8 x]

/-- The prompt-slot byte of a beacon, and byte 0 of a PROMPT_REQ. -/
def promptByte (kind : PromptKind) (urgent : Bool) : Byte := BitVec.ofNat 8 (kind.code + if urgent then 4 else 0)

/-- The prompt slot of a beacon as one byte: 0 when empty, and otherwise its kind and priority (11.1, byte 8). -/
def promptSlotByte (x : Option (PromptKind × Bool)) : Byte :=
  match x with
  | some (k, u) => promptByte k u
  | none => 0

/-- The 13 bytes of a BEACON. -/
def Beacon.bytes (b : Beacon) : List Byte :=
  leBytes 1 b.reported.code ++
  [BitVec.ofNat 8 ((if b.haltInput then 1 else 0) + if b.panelRole then 2 else 0)] ++
  leBytes 1 b.slotState.code ++ be16 b.remaining ++ be16 b.tInrush ++ leBytes 1 b.sMax ++
  [promptSlotByte b.prompt] ++
  leBytes 1 b.message ++ leBytes 1 b.tag.val ++ leBytes 1 b.serial ++ leBytes 1 (verdictCode b.verdict)

/-- The payload bytes as they are sent. -/
def Payload.bytes : Payload → List Byte
  | .halt => []
  | .haltClear f => boolByte f
  | .slotRelease => []
  | .slotClaim t => be16 t
  | .promptAnswer st tag a => [BitVec.ofNat 8 st.val, BitVec.ofNat 8 (tag.val + 16 * a.code)]
  | .promptShow none => [255]
  | .promptShow (some (st, tag)) => [BitVec.ofNat 8 (16 * st.val + tag.val)]
  | .promptCancel tag => leBytes 1 tag.val
  | .promptReq k u m tag d => [promptByte k u] ++ leBytes 1 m ++ leBytes 1 tag.val ++ leBytes 1 d
  | .result ser v c =>
    leBytes 1 ser ++ leBytes 1 v.code ++ leBytes 1 c.pass ++ leBytes 1 c.marginal ++ leBytes 1 c.fail ++
    leBytes 1 c.invalid ++ leBytes 1 c.aborted
  | .beaconDue => []
  | .beacon b => b.bytes

/-- A header: class, sender index, kind and payload length (11.1). -/
def headerOf (kind : FrameKind) (sender : Nat) : BitVec 16 :=
  BitVec.ofNat 16 (kind.cls * 2 ^ 14 + sender * 2 ^ 10 + kind.code * 2 ^ 5 + kind.length)

/-- The frame a station drives for a payload. -/
def driveFrame (sender : Nat) (p : Payload) : RackFrame :=
  let h := headerOf p.kind sender
  { header := h, payload := p.bytes, crc := rackCrc (rackBits h p.bytes) }

/-- A frame's bits in line order (11.1): the start bit, header, payload and CRC, each most significant bit first, and the sender's recessive veto slot and end bits. -/
def frameLineBits (f : RackFrame) : List Bool :=
  [false] ++ rackBits f.header f.payload ++ natBits 16 f.crc.toNat ++ List.replicate 2 true ++ List.replicate 8 true

/-- The row of the kind table that a header's class and kind name (R2). -/
def headerKind (h : BitVec 16) : Option FrameKind :=
  FrameKind.all.find? (fun k => decide (k.cls = h.toNat / 2 ^ 14) && decide (k.code = h.toNat / 2 ^ 5 % 2 ^ 5))

/-- A receiver finds the frame faulty (R2, R185). -/
def frameFaulty (f : RackFrame) : Bool :=
  match headerKind f.header with
  | none => true
  | some k =>
    decide (f.header.toNat % 2 ^ 5 ≠ k.length) || decide (12 ≤ f.header.toNat / 2 ^ 10 % 2 ^ 4) ||
      decide (f.crc ≠ rackCrc (rackBits f.header f.payload))

/-- After the header, the sender of the bits `driven` read a dominant bit where it drove a recessive one (R2, R9). -/
def frameMisread (driven : List Bool) (heard : RackFrame) : Bool :=
  ((driven.drop 17).zip ((frameLineBits heard).drop 17)).any (fun x => x.1 && !x.2)

/-- A station index of 4 bits, where it is one of 0 to 11. -/
def stationOf (n : Nat) : Option StationIdx := if h : n < 12 then some ⟨n, h⟩ else none

/-- A tag, where it is one of 0 to 15. -/
def tagOf (n : Nat) : Option Tag := if h : n < 16 then some ⟨n, h⟩ else none

/-- The prompt-slot byte of a beacon: empty, or a kind and a priority; `none` where it is outside its codes. R185 does not mark bits 7 to 3 as sent 0: beside a kind of 1 to 3 they are ignored, and a byte other than 0 with the kind 0, such as 8, is outside the codes (DESIGN CHOICE, log entry 11). -/
def beaconPrompt (b : Byte) : Option (Option (PromptKind × Bool)) :=
  if b = 0 then some none
  else (PromptKind.ofCode (b.toNat % 4)).map (fun k => some (k, b.getLsbD 2))

/-- A BEACON's 13 bytes read as its fields; `none` where a value lies outside its codes (R185). Each field is judged by itself: a remaining inrush other than 0 beside a slot state other than GRANTED, or a message or a tag other than 0 beside an empty prompt slot, which R15 sends as 0, is no value outside its codes (DESIGN CHOICE, log entry 11). -/
def beaconOfBytes (bs : List Byte) : Option Beacon := do
  let g (i : Nat) : Byte := bs.getD i 0
  let reported ← Reported.ofCode (g 0).toNat
  let slotState ← ClaimState.ofCode (g 2).toNat
  let remaining := 256 * (g 3).toNat + (g 4).toNat
  let tInrush := 256 * (g 5).toNat + (g 6).toNat
  let sMax := (g 7).toNat
  let prompt ← beaconPrompt (g 8)
  let tag ← tagOf (g 10).toNat
  let verdict ← if g 12 = 0 then some none else (StationVerdict.ofCode (g 12).toNat).map some
  if remaining ≤ 2000 ∧ 20 ≤ tInrush ∧ tInrush ≤ 2000 ∧ 1 ≤ sMax ∧ sMax ≤ 4 then
    some { reported := reported, haltInput := (g 1).getLsbD 0, panelRole := (g 1).getLsbD 1, slotState := slotState,
           remaining := remaining, tInrush := tInrush, sMax := sMax, prompt := prompt, message := (g 9).toNat,
           tag := tag, serial := (g 11).toNat, verdict := verdict }
  else none

/-- The payload of a sound frame of a kind, or `none` where a value lies outside the codes of its field (R185). -/
def Payload.ofBytes (kind : FrameKind) (bs : List Byte) : Option Payload :=
  let g (i : Nat) : Byte := bs.getD i 0
  match kind with
  | .halt => some .halt
  | .haltClear => some (.haltClear ((g 0).getLsbD 0))
  | .slotRelease => some .slotRelease
  | .slotClaim =>
    let t := 256 * (g 0).toNat + (g 1).toNat
    if 20 ≤ t ∧ t ≤ 2000 then some (.slotClaim t) else none
  | .promptAnswer =>
    match stationOf ((g 0).toNat % 16), tagOf ((g 1).toNat % 16), Answer.ofCode ((g 1).toNat / 16 % 4) with
    | some st, some tag, some a => some (.promptAnswer st tag a)
    | _, _, _ => none
  | .promptShow =>
    if g 0 = 255 then some (.promptShow none)
    else
      match stationOf ((g 0).toNat / 16), tagOf ((g 0).toNat % 16) with
      | some st, some tag => some (.promptShow (some (st, tag)))
      | _, _ => none
  | .promptCancel => (tagOf ((g 0).toNat % 16)).map .promptCancel
  | .promptReq =>
    match PromptKind.ofCode ((g 0).toNat % 4), tagOf (g 2).toNat with
    | some k, some tag =>
      let d := (g 3).toNat
      if (k = .notice ∧ 1 ≤ d ∧ d ≤ 30) ∨ (k ≠ .notice ∧ d = 0) then
        some (.promptReq k ((g 0).getLsbD 2) (g 1).toNat tag d)
      else none
    | _, _ => none
  | .result =>
    match StationVerdict.ofCode (g 1).toNat with
    | some v =>
      let c : Counts := { pass := (g 2).toNat, marginal := (g 3).toNat, fail := (g 4).toNat, invalid := (g 5).toNat,
                          aborted := (g 6).toNat }
      if c.pass ≤ 48 ∧ c.marginal ≤ 48 ∧ c.fail ≤ 48 ∧ c.invalid ≤ 48 ∧ c.aborted ≤ 48 then
        some (.result (g 0).toNat v c)
      else none
    | none => none
  | .beacon => (beaconOfBytes bs).map .beacon

/-! ## Parameters of the commands (R186) -/

/-- The two parameters of R181 with a bit n in CONFIGURE's present mask, for the required ones. -/
def configRequired : List Nat := [2, 3, 4, 8, 9]

/-- The nearest of the three bit rates, the higher on a tie (R181). -/
def nearestRate (r : Nat) : Nat := if 375 ≤ r then 500 else if 2 * r < 375 then 125 else 250

/-- The configuration that CONFIGURE's 19 bytes store, and whether a value was adjusted; `none` where a required parameter is absent (R181). Bits 10 to 15 of the present mask belong to no parameter and are ignored (DESIGN CHOICE, log entry 16). -/
def configOf (bs : List Byte) : Option (StationConfig × Bool) :=
  let mask := field bs 0 2
  let has (n : Nat) : Bool := mask.testBit n
  let pick (n dflt lo hi given : Nat) : Nat × Bool :=
    if has n then (clampNat lo hi given, decide (clampNat lo hi given ≠ given)) else (dflt, false)
  if configRequired.all has then
    let sMax := pick 0 2 1 4 (field bs 2 1)
    let tInrush := pick 1 200 20 2000 (field bs 3 2)
    let iInrush := pick 2 1 1 5000 (field bs 5 2)
    let iRun := pick 3 1 1 5000 (field bs 7 2)
    let trip := pick 4 1 1 50 (field bs 9 1)
    let limit := pick 5 3000 500 5000 (field bs 10 2)
    let frameMs := pick 6 10 1 100 (field bs 12 1)
    let prompt := pick 7 120 1 600 (field bs 13 2)
    let rate := field bs 17 2
    some ({ sMax := sMax.1, tInrush := tInrush.1, iInrush := iInrush.1, iRun := iRun.1, tripDelay := trip.1,
            clampLimit := limit.1, frameMs := frameMs.1, promptTime := prompt.1,
            safePattern := BitVec.ofNat 16 (field bs 15 2), bitRate := nearestRate rate },
          sMax.2 || tInrush.2 || iInrush.2 || iRun.2 || trip.2 || limit.2 || frameMs.2 || prompt.2 ||
            decide (nearestRate rate ≠ rate))
  else none

/-- The ten stored parameter values, in the order of R181. -/
def StationConfig.bytes (c : StationConfig) : List Byte :=
  leBytes 1 c.sMax ++ leBytes 2 c.tInrush ++ leBytes 2 c.iInrush ++ leBytes 2 c.iRun ++ leBytes 1 c.tripDelay ++
  leBytes 2 c.clampLimit ++ leBytes 1 c.frameMs ++ leBytes 2 c.promptTime ++ leBytes 2 c.safePattern.toNat ++
  leBytes 2 c.bitRate

/-- An apply timing (4.7). -/
inductive Timing where
  | now
  | next
  | second
  deriving DecidableEq, Repr

def Timing.ofCode : Nat → Option Timing
  | 0 => some .now
  | 1 => some .next
  | 2 => some .second
  | _ => none

/-- An update with no field present. -/
def ChannelUpdate.none : ChannelUpdate :=
  { mode := Option.none, freq := Option.none, duty := Option.none, count := Option.none, width := Option.none,
    value := Option.none, slew := Option.none, link := Option.none }

/-- What SET_CHANNEL's 25 bytes ask for: the channel, the timing, the update as stored, and whether a field was adjusted; `none` where R66 refuses with RANGE. -/
def setChannelOf (bs : List Byte) : Option (ChannelIdx × Timing × ChannelUpdate × Bool) :=
  let ch := field bs 0 1
  let mask := field bs 2 1
  let has (n : Nat) : Bool := mask.testBit n
  let mode := ChannelMode.ofCode (field bs 3 1)
  let duty := field bs 8 2
  let count := field bs 10 2
  let width := field bs 12 4
  let link := field bs 24 1
  if h : ch < 8 then
    match Timing.ofCode (field bs 1 1) with
    | none => none
    | some t =>
      if has 0 && mode.isNone then none
      else if has 0 && decide (6 ≤ ch) && !(mode = some .idle || mode = some .value) then none
      else if has 7 && decide (2 ≤ link) then none
      else if has 7 && decide (link = 1) && (decide (ch = 0) || decide (6 ≤ ch)) then none
      else
        let u : ChannelUpdate :=
          { mode := if has 0 then mode else none
            freq := if has 1 then some (field bs 4 4) else none
            duty := if has 2 then some (min duty 10000) else none
            count := if has 3 then some (max count 1) else none
            width := if has 4 then some (clampNat 1 100000000 width) else none
            value := if has 5 then some (fieldS32 bs 16) else none
            slew := if has 6 then some (field bs 20 4) else none
            link := if has 7 then some (decide (link = 1)) else none }
        let adjusted := (has 2 && decide (10000 < duty)) || (has 3 && decide (count = 0)) ||
          (has 4 && decide (clampNat 1 100000000 width ≠ width))
        some (⟨ch, h⟩, t, u, adjusted)
  else none

/-- What SET_DISCRETES's 5 bytes ask for; `none` where the timing code is unknown (R67). -/
def setDiscretesOf (bs : List Byte) : Option (Timing × DiscreteUpdate) :=
  (Timing.ofCode (field bs 0 1)).map
    (fun t => (t, { mask := BitVec.ofNat 16 (field bs 1 2), values := BitVec.ofNat 16 (field bs 3 2) }))

/-- The check indices a 48-bit field marks, in ascending order (R116). -/
def checkSet (bs : List Byte) : List CheckIdx :=
  let n := field bs 0 6
  (List.finRange 48).filter (fun i => n.testBit i.val)

/-! ## Written records (11.4) -/

/-- The kind borrows a measurement channel (R113). -/
def CheckKind.usesChannel : CheckKind → Bool
  | .freq => true
  | .duty => true
  | .count => true
  | _ => false

/-- A CHECKS record as it is written; `none` where the kind code is unknown. What stands in bits 7 to 5 of byte 12, which 11.4 marks as sent 0, is ignored and reads back as 0 (DESIGN CHOICE, log entry 7). -/
def checkDefOf (bs : List Byte) : Option CheckDef :=
  (CheckKind.ofCode (field bs 0 1)).map (fun kind =>
    let fl := field bs 12 1
    { kind := kind, channel := field bs 1 1, line := field bs 2 1, edge := field bs 3 1, filter := field bs 4 1,
      theta := field bs 5 3, group := field bs 8 1, rxFilter := field bs 9 1, start := field bs 10 1,
      width := field bs 11 1, big := fl.testBit 0, signed := fl.testBit 1, tolerate := fl.testBit 2,
      urgent := fl.testBit 3, track := fl.testBit 4, message := field bs 13 1, cond := field bs 14 1,
      condArg := field bs 15 4, settle := field bs 19 2, window := field bs 21 2, samples := field bs 23 1,
      deadline := field bs 24 2, m := field bs 26 2, d := field bs 28 2, o := fieldS32 bs 30,
      limLo := fieldS32 bs 34, limHi := fieldS32 bs 38, pctLo := field bs 42 2, pctHi := field bs 44 2,
      trackCh := field bs 46 1, guard := fieldS32 bs 47 })

/-- The written form of a definition (11.4). -/
def CheckDef.bytes (c : CheckDef) : List Byte :=
  leBytes 1 c.kind.code ++ leBytes 1 c.channel ++ leBytes 1 c.line ++ leBytes 1 c.edge ++ leBytes 1 c.filter ++
  leBytes 3 c.theta ++ leBytes 1 c.group ++ leBytes 1 c.rxFilter ++ leBytes 1 c.start ++ leBytes 1 c.width ++
  bitSet 1 [c.big, c.signed, c.tolerate, c.urgent, c.track] ++ leBytes 1 c.message ++ leBytes 1 c.cond ++
  leBytes 4 c.condArg ++ leBytes 2 c.settle ++ leBytes 2 c.window ++ leBytes 1 c.samples ++ leBytes 2 c.deadline ++
  leBytes 2 c.m ++ leBytes 2 c.d ++ leSigned 4 c.o ++ leSigned 4 c.limLo ++ leSigned 4 c.limHi ++
  leBytes 2 c.pctLo ++ leBytes 2 c.pctHi ++ leBytes 1 c.trackCh ++ leSigned 4 c.guard

/-- The tests of R114 that refuse a definition of check `i` with RANGE, on the fields its kind and limit mode use. -/
def CheckDef.inRange (c : CheckDef) (i : CheckIdx) : Bool :=
  let uses := c.kind.usesChannel
  let measured := decide (c.kind ≠ .operator)
  decide (c.cond < 5) &&
  !(decide (c.cond = 2) && decide (3 < c.condArg)) &&
  !((decide (c.cond = 3) || decide (c.cond = 4)) && (decide (47 < c.condArg) || decide (c.condArg = i.val))) &&
  !(uses && (decide (3 < c.channel) || decide (1 < c.edge) || decide (255 < c.filter))) &&
  !((uses || decide (c.kind = .level)) && decide (15 < c.line)) &&
  !(decide (c.kind = .count) && decide (Config.countMax < c.theta)) &&
  !(decide (c.kind = .pattern) && decide (3 < c.group)) &&
  !(decide (c.kind = .vnField) &&
      (decide (15 < c.rxFilter) || decide (63 < c.start) || decide (c.width = 0) || decide (32 < c.width) ||
        !fieldFits c.big c.start c.width 8)) &&
  !(measured && (decide (c.m = 0) || decide (c.d = 0) || decide (c.o < -1000000) || decide (1000000 < c.o))) &&
  !(measured && decide (c.guard < 0)) &&
  !(measured && !c.track && decide (c.limHi < c.limLo)) &&
  !(measured && c.track &&
      (decide (7 < c.trackCh) || decide (c.limLo < 0) || decide (c.limHi < 0) || decide (10000 < c.pctLo) ||
        decide (10000 < c.pctHi)))

/-- The definition as R114 stores it. -/
def CheckDef.adjust (c : CheckDef) : CheckDef :=
  let measured := decide (c.kind ≠ .operator)
  { c with
    window := if measured then clampNat 1 10000 c.window else c.window
    samples := clampNat 1 8 c.samples
    settle := min c.settle 5000
    deadline := min c.deadline 60000
    guard := if measured && !c.track && decide (c.limHi - c.limLo < 2 * c.guard) then (c.limHi - c.limLo) / 2
             else c.guard }

/-- A TX_SLOTS record as it is written, its run-time fields as R84 resets them; `none` where R83 refuses it with RANGE. What stands in bits 7 and 6 of byte 0, which 11.4 marks as sent 0, is ignored and reads back as 0, and so do the fields of an absent part (DESIGN CHOICE, log entry 7). -/
def vnSlotOf (bs : List Byte) : Option VnSlot :=
  let fl := field bs 0 1
  let ext := fl.testBit 1
  let big := fl.testBit 4
  let ident := field bs 1 4
  let len := field bs 5 1
  let period := field bs 14 2
  let phase := field bs 16 2
  let src := field bs 18 1
  let start := field bs 19 1
  let width := field bs 20 1
  let m := field bs 21 2
  let d := field bs 23 2
  let cs := field bs 29 1
  let cw := field bs 30 1
  let hasB := fl.testBit 2
  let hasC := fl.testBit 3
  let okIdent := if ext then decide (ident < 2 ^ 29) else decide (ident < 2 ^ 11)
  let okPeriod := decide (period = 0) || (decide (10 ≤ period) && decide (period ≤ 10000))
  let okB := decide (m ≠ 0) && decide (d ≠ 0) && decide (1 ≤ width) && decide (width ≤ 32) && decide (start ≤ 63) &&
    decide (src < 8) && fieldFits big start width len
  let okC := decide (2 ≤ cw) && decide (cw ≤ 8) && decide (cs ≤ 63) && fieldFits false cs cw len
  let apart := (fieldBits big start width).all (fun i => !(fieldBits false cs cw).contains i)
  if okIdent && decide (len ≤ 8) && okPeriod && decide (phase ≤ period) && (!hasB || okB) && (!hasC || okC) &&
      (!(hasB && hasC) || apart) then
    some { VnSlot.blank with
      enable := fl.testBit 0, extended := ext, identifier := ident, length := len,
      payload := bytesToPayload ((bs.drop 6).take 8), period := period, phase := phase,
      bound := if hasB then
          some { source := Fin.ofNat 8 src, start := start, width := width, big := big, signed := fl.testBit 5, m := m,
                 d := d, o := fieldS32 bs 25 }
        else none
      counter := if hasC then some (cs, cw) else none }
  else none

/-- The written form of a transmit slot's definition; the fields of an absent part read 0. -/
def VnSlot.bytes (v : VnSlot) : List Byte :=
  bitSet 1 [v.enable, v.extended, v.bound.isSome, v.counter.isSome, (v.bound.map (·.big)).getD false,
    (v.bound.map (·.signed)).getD false] ++
  leBytes 4 v.identifier ++ leBytes 1 v.length ++ payloadBytes v.payload 8 ++ leBytes 2 v.period ++ leBytes 2 v.phase ++
  (match v.bound with
    | some f => leBytes 1 f.source.val ++ leBytes 1 f.start ++ leBytes 1 f.width ++ leBytes 2 f.m ++ leBytes 2 f.d ++
        leSigned 4 f.o
    | none => List.replicate 11 0) ++
  (match v.counter with
    | some (s, w) => leBytes 1 s ++ leBytes 1 w
    | none => List.replicate 2 0)

/-- An RX_FILTERS record; `none` where R93 refuses it with RANGE. -/
def rxFilterOf (bs : List Byte) : Option RxFilter :=
  let ident := field bs 1 4
  let mask := field bs 5 4
  match FilterFormat.ofCode (field bs 0 1) with
  | none => none
  | some f =>
    let bound := match f with
      | .standard => 2 ^ 11
      | .extended => 2 ^ 29
      | .off => 2 ^ 32
    if ident < bound ∧ mask < bound then
      some { format := f, identifier := BitVec.ofNat 32 ident, mask := BitVec.ofNat 32 mask, latest := none }
    else none

/-- The written form of a receive filter. -/
def RxFilter.bytes (f : RxFilter) : List Byte :=
  leBytes 1 f.format.code ++ leBytes 4 f.identifier.toNat ++ leBytes 4 f.mask.toNat

/-- A MESSAGES record's text; `none` where R150 refuses it with RANGE. -/
def messageOf (bs : List Byte) : Option (List Byte) :=
  let n := field bs 0 1
  let text := (bs.drop 1).take n
  if n ≤ 40 ∧ text.all (fun b => decide (32 ≤ b.toNat) && decide (b.toNat ≤ 126)) then some text else none

/-- The written form of a message. The bytes beyond its length, which a write sends and R150 does not judge, are not kept and read back as 0 (DESIGN CHOICE, log entry 7). -/
def messageBytes (text : List Byte) : List Byte := leBytes 1 text.length ++ padTo 40 text

/-- The terms and the mode of a pattern-group record; `none` where a code is unknown (R100). -/
def groupOf (bs : List Byte) : Option (Vector Term 16 × Bool) :=
  let t (i : Nat) : Option Term := Term.ofCode (field bs i 1)
  let mode := field bs 16 1
  if (List.range 16).all (fun i => (t i).isSome) && decide (mode < 2) then
    some (Vector.ofFn (fun i => (t i.val).getD .ignore), decide (mode = 1))
  else none

/-! ## Event records (11.3) -/

/-- The kind of an event, 1 to 24. -/
def Event.kind : Event → Nat
  | .seatChanged _ _ _ _ _ => 1
  | .clampDone _ _ => 2
  | .unclampDone _ _ => 3
  | .powerGranted _ _ => 4
  | .powerWaitTimeout _ => 5
  | .powerCancelled _ => 6
  | .switchDone _ => 7
  | .switchFailed _ _ => 8
  | .checkDone _ _ _ => 9
  | .countThreshold _ _ _ => 10
  | .promptAnswered _ _ _ => 11
  | .promptTimeout _ _ _ => 12
  | .promptLateAnswer _ _ => 13
  | .panelYielded _ => 14
  | .haltEntered _ _ _ => 15
  | .haltCleared _ => 16
  | .faultEntered _ _ _ => 17
  | .lockoutEntered _ _ => 18
  | .peerJoined _ => 19
  | .peerLost _ => 20
  | .configMismatch _ _ => 21
  | .rbTxAbandoned _ => 22
  | .vnStateChanged _ _ _ _ => 23
  | .eventsLost _ _ => 24

/-- The argument of an event. -/
def Event.argBytes : Event → List Byte
  | .seatChanged a b c o n => bitSet 1 [a, b, c, o] ++ leBytes 1 n.code
  | .clampDone c n => boolByte (!c) ++ leBytes 1 n.code
  | .unclampDone o n => boolByte (!o) ++ leBytes 1 n.code
  | .powerGranted r w => leBytes 1 (railCode r) ++ leBytes 2 w
  | .powerWaitTimeout r => leBytes 1 (railCode r)
  | .powerCancelled r => leBytes 1 (railCode r)
  | .switchDone r => leBytes 1 (railCode r)
  | .switchFailed r w => leBytes 1 (railCode r) ++ leBytes 1 w
  | .checkDone c v n => leBytes 1 c.val ++ leBytes 1 v.code ++ leBytes 1 n
  | .countThreshold c m t => leBytes 1 c.val ++ leBytes 1 m.val ++ leBytes 4 t.toNat
  | .promptAnswered t m a => leBytes 1 t.val ++ leBytes 1 m ++ leBytes 1 a.code
  | .promptTimeout t m r => leBytes 1 t.val ++ leBytes 1 m ++ boolByte r
  | .promptLateAnswer t a => leBytes 1 t.val ++ leBytes 1 a.code
  | .panelYielded i => leBytes 1 i.val
  | .haltEntered set own n => bitSet 2 (set.toList ++ [own]) ++ leBytes 1 n.code
  | .haltCleared n => leBytes 1 n.code
  | .faultEntered c r n => leBytes 1 c.code ++ classByte c ++ boolByte r ++ leBytes 1 n.code
  | .lockoutEntered c d => leBytes 1 c.code ++ leBytes 1 d.code
  | .peerJoined i => leBytes 1 i.val
  | .peerLost i => leBytes 1 i.val
  | .configMismatch e o => leBytes 1 e ++ leBytes 1 o
  | .rbTxAbandoned k => leBytes 1 k.code
  | .vnStateChanged o n t r => leBytes 1 o.code ++ leBytes 1 n.code ++ leBytes 2 t ++ leBytes 1 r
  | .eventsLost n k => leBytes 2 n ++ leBytes 1 k

/-- The 12 bytes of an event record. -/
def EventRecord.bytes (r : EventRecord) : List Byte :=
  leBytes 1 r.event.kind ++ leBytes 1 r.event.argBytes.length ++ leBytes 4 r.frame.toNat ++ padTo 6 r.event.argBytes

/-! ## Returned records (R186: the items in the order their rules list them) -/

/-- The flags of a sample or result as one bit per flag (R186). No list of the manual orders the flags: from bit 0 they stand as OVERRANGE, STATIC, NO_SIGNAL, DISTURBED, TIMEOUT, SATURATED, GUARD_CLAMPED, LATE (DESIGN CHOICE, log entry 26). -/
def Flags.bytes (f : Flags) : List Byte :=
  bitSet 1 [f.overrange, f.static, f.noSignal, f.disturbed, f.timeout, f.saturated, f.guardClamped, f.late]

def Sample.bytes (x : Sample) : List Byte :=
  leBytes 1 x.verdict.code ++ optBytes 4 (x.eng.map (leSigned 4)) ++ x.flags.bytes

/-- A sample list: its number of entries, and 8 entries of 7 bytes. -/
def samplesBytes (xs : List Sample) : List Byte := leBytes 1 xs.length ++ padTo 56 (xs.map Sample.bytes).flatten

def ApplyStamp.bytes (a : ApplyStamp) : List Byte := leBytes 4 a.frame.toNat ++ leBytes 4 a.tick.toNat

def MatchStamp.bytes (a : MatchStamp) : List Byte := leBytes 4 a.tick.toNat ++ leBytes 4 a.frame.toNat

/-- The run-time part of check `i` (R115). `figure` gives the running raw figure of its open window. The arming number is two items, the sequence value in 6 bytes and the check index in one, where R115 and R116 have one number made of both (DESIGN CHOICE, log entry 7). R115 gives neither a width for that figure nor a rounding of the two timers: the figure is 5 signed bytes for every kind, and a timer is the whole ms left, rounded down (DESIGN CHOICE, log entry 7). -/
def RunPart.bytes (i : CheckIdx) (figure : CheckWindow → Int) (r : RunPart) : List Byte :=
  leBytes 6 r.armSeq.toNat ++ leBytes 1 i.val ++ optBytes 8 (r.start.map ApplyStamp.bytes) ++
  optBytes 2 (r.settle.map (fun t => leBytes 2 (msLeft t))) ++ optBytes 2 (r.deadline.map (fun t => leBytes 2 (msLeft t))) ++
  leBytes 1 r.samples.length ++
  optBytes 14 (r.window.map (fun w =>
    leBytes 4 w.openTick.toNat ++ optBytes 4 (w.ref.map (leSigned 4)) ++ leSigned 5 (figure w))) ++
  samplesBytes r.samples

/-- The size of a run-time part. -/
def runPartSize : Nat := 6 + 1 + 9 + 3 + 3 + 1 + 15 + 57

/-- The result part (R115). Its state item is the code of its own two values, 0 for DONE and 1 for ABORTED, and not that of the six check states of 7.2, where they stand at 4 and 5 (DESIGN CHOICE, log entry 26). -/
def ResultPart.bytes (r : ResultPart) : List Byte :=
  boolByte (decide (r.verdict = .aborted)) ++ leBytes 1 r.verdict.code ++
  optBytes 1 (r.cause.map (fun c => leBytes 1 c.code)) ++ samplesBytes r.samples ++ leBytes 1 r.valid ++ leBytes 1 r.k ++
  optBytes 4 (r.value.map (leSigned 4)) ++ optBytes 4 (r.minimum.map (leSigned 4)) ++
  optBytes 4 (r.maximum.map (leSigned 4)) ++ r.flags.bytes ++ leBytes 4 r.frame.toNat ++ leBytes 4 r.tick.toNat

/-- The size of a result part. -/
def resultPartSize : Nat := 1 + 1 + 2 + 57 + 1 + 1 + 15 + 1 + 8

/-- A record of CHECKS: the written form, the state, the run-time part and then the result part. R115 reads out the definition, the state and the result part, and the run-time part too, while R186 puts run-time and result fields behind the written form in the order their chapters list them (DESIGN CHOICE, log entry 7). -/
def Check.bytes (i : CheckIdx) (c : Check) (figure : CheckWindow → Int) (result : Option ResultPart) : List Byte :=
  c.defn.bytes ++ leBytes 1 c.state.code ++ optBytes runPartSize (c.run.map (RunPart.bytes i figure)) ++
  optBytes resultPartSize (result.map ResultPart.bytes)

/-- A record of RESULTS (R130). -/
def RecordEntry.bytes (e : RecordEntry) : List Byte :=
  leBytes 1 e.check.val ++ leBytes 1 e.kind.code ++ e.result.bytes

/-- A record of TX_SLOTS. The time the next instance falls due is given as the whole ms left, rounded down, in two bytes, and the held refresh as its presence mark alone, without the encoded value that it holds (both DESIGN CHOICE, log entry 7). -/
def VnSlot.recordBytes (v : VnSlot) : List Byte :=
  v.bytes ++
  leBytes 1 (match v.inst with | .none => 0 | .pending _ => 1 | .onLine _ _ => 2) ++ boolByte v.held.isSome ++
  leBytes 1 v.nextCount ++ leSigned 5 v.lastEnc ++ boolByte v.clamped ++ leBytes 2 v.sent ++
  optBytes 2 (v.due.map (fun t => leBytes 2 (msLeft t)))

/-- A record of RX_FILTERS. The length item of the latest record counts its data bytes, which stand behind it as 8 bytes filled up with zeros, and no count byte of a list precedes them (DESIGN CHOICE, log entry 7). -/
def RxFilter.recordBytes (f : RxFilter) : List Byte :=
  f.bytes ++
  optBytes 22 (f.latest.map (fun l =>
    leBytes 4 l.identifier ++ leBytes 1 l.data.length ++ padTo 8 l.data ++ leBytes 2 l.seq ++ leBytes 4 l.frame.toNat ++
    leBytes 3 l.offset))

/-- A record of RX_RING, its data bytes as in RX_FILTERS (DESIGN CHOICE, log entry 7). -/
def RingEntry.bytes (e : RingEntry) : List Byte :=
  leBytes 2 e.seq ++ boolByte e.extended ++ leBytes 4 e.identifier ++ leBytes 1 e.data.length ++ padTo 8 e.data ++
  optBytes 1 (e.filter.map (fun f => leBytes 1 f.val)) ++ leBytes 4 e.frame.toNat ++ leBytes 3 e.offset

/-- A record of PATTERN_GROUPS for a group. -/
def Group.bytes (g : Group) : List Byte :=
  (g.terms.toList.map (fun t => leBytes 1 t.code)).flatten ++ boolByte g.latched ++ boolByte g.mark ++ leBytes 3 g.count ++
  optBytes 8 (g.first.map MatchStamp.bytes) ++ optBytes 8 (g.last.map MatchStamp.bytes) ++
  optBytes 10 (g.snapshot.map (fun x => leBytes 2 x.1.toNat ++ x.2.bytes))

/-- A record of PATTERN_GROUPS for a line. -/
def Line.bytes (l : Line) : List Byte :=
  boolByte l.invert ++ leBytes 1 l.filter ++ List.replicate 15 0 ++ boolByte l.level ++ leBytes 1 l.run ++
  optBytes 5 (l.lastEdge.map (fun e => leBytes 4 e.tick.toNat ++ boolByte (!e.rise)))

/-- A record of PATTERN_GROUPS for a measurement channel (R104); OVERRANGE is the flag an open window may hold so far. R104 names the holder's check index both with the state FREE or LENT and among the settings of the read: the record gives it once, ahead of the settings (DESIGN CHOICE, log entry 7). Whether a window is open is the presence byte of the window's items and no item of its own, while FREE or LENT has both (DESIGN CHOICE, log entry 7). -/
def measBytes (x : Option Lent) : List Byte :=
  boolByte x.isSome ++
  optBytes 18 (x.map (fun l =>
    leBytes 1 l.holder.val ++ leBytes 1 l.line.val ++ boolByte (!l.rise) ++ leBytes 1 l.filter ++ boolByte l.counts ++
    optBytes 3 (l.theta.map (leBytes 3)) ++
    optBytes 8 (l.window.map (fun w =>
      leBytes 4 w.openTick.toNat ++ leBytes 3 (if l.counts then w.count else w.n) ++ boolByte w.overrange))))

/-- The last-beacon fields in the order of R15. -/
def Beacon.recordBytes (b : Beacon) : List Byte :=
  leBytes 1 b.reported.code ++ boolByte b.haltInput ++ boolByte b.panelRole ++ leBytes 1 b.slotState.code ++
  leBytes 2 b.remaining ++ leBytes 2 b.tInrush ++ leBytes 1 b.sMax ++
  [promptSlotByte b.prompt] ++ leBytes 1 b.message ++
  leBytes 1 b.tag.val ++ leBytes 1 b.serial ++ leBytes 1 (verdictCode b.verdict)

/-- A record of PEERS. -/
def PeerEntry.bytes (e : PeerEntry) : List Byte :=
  boolByte (!e.present) ++ optBytes 14 (e.beacon.map Beacon.recordBytes) ++
  optBytes 2 (e.silence.map (fun t => leBytes 2 (msLeft t)))

def Counts.bytes (c : Counts) : List Byte :=
  leBytes 1 c.pass ++ leBytes 1 c.marginal ++ leBytes 1 c.fail ++ leBytes 1 c.invalid ++ leBytes 1 c.aborted

/-- A record of BOARD. -/
def boardBytes (x : Option BoardEntry) : List Byte :=
  optBytes 10 (x.map (fun e =>
    leBytes 1 e.serial ++ leBytes 1 e.verdict.code ++ optBytes 5 (e.counts.map Counts.bytes) ++
    boolByte (!e.fromResult) ++ boolByte e.stale))

/-- The fields of the fault record (R165). A cause's argument may be absent (R163), so each is preceded by its presence byte (R186). -/
def FaultEntry.bytes (e : FaultEntry) : List Byte :=
  leBytes 1 e.cause.code ++ classByte e.cause ++ optBytes 6 e.cause.argBytes ++ leBytes 1 e.entryMode.code ++ boolByte e.haltFlag ++
  leBytes 1 e.nest.code ++ leBytes 1 ((if e.mainClosed then 1 else 0) + if e.auxClosed then 2 else 0) ++
  leBytes 4 e.frame.toNat ++ leBytes 3 e.sample ++ leBytes 4 e.tick.toNat ++ leBytes 1 e.aborted ++
  optBytes 1 (e.lowest.map (fun i => leBytes 1 i.val)) ++ boolByte e.checkOpen ++ boolByte e.recoverable ++
  optBytes 12 (e.second.map (fun x => leBytes 1 x.1.code ++ optBytes 6 x.1.argBytes ++ leBytes 4 x.2.toNat)) ++ leBytes 1 e.later

/-- The record of FAULT_RECORD. -/
def faultRecordBytes (h : Hfu) : List Byte := optBytes 43 (h.entry.map FaultEntry.bytes) ++ leBytes 1 h.recState.code

/-- A burst state (R56): RUNNING 0 or ENDED 1, and the remaining count, which is present while RUNNING (DEDUCED, log entry 7). -/
def burstBytes (b : Option Nat) : List Byte := boolByte b.isNone ++ optBytes 2 (b.map (leBytes 2))

/-- A record of CHANNELS for a channel (4.1). 'Whether NEXT and SECOND staging slots are occupied' (R56) is two items of one byte each, NEXT first, and not one set with a bit for each (DESIGN CHOICE, log entry 7): R186 allows either. -/
def Channel.bytes (c : Channel) (next second : Bool) : List Byte :=
  leBytes 1 c.mode.code ++ leBytes 4 c.freq ++ leBytes 2 c.duty ++ leBytes 2 c.count ++ leBytes 4 c.width ++
  leSigned 4 c.value ++ leBytes 4 c.slew ++ boolByte c.link ++ leBytes 4 c.workFreq ++ leSigned 4 c.workValue ++
  leBytes 3 c.realFreq ++ leBytes 2 c.realDuty ++ leSigned 4 c.realValue ++ boolByte c.clamped ++
  burstBytes c.burst ++ boolByte c.gated ++ boolByte next ++ boolByte second ++
  optBytes 8 (c.stamp.map ApplyStamp.bytes)

def DiscreteUpdate.bytes (u : DiscreteUpdate) : List Byte := leBytes 2 u.mask.toNat ++ leBytes 2 u.values.toNat

/-- Record 8 of CHANNELS, the discrete group (4.1). -/
def groupRecordBytes (s : Stu) : List Byte :=
  leBytes 2 s.discretes.toNat ++ optBytes 4 (s.groupNext.map DiscreteUpdate.bytes) ++
  optBytes 4 (s.groupSecond.map DiscreteUpdate.bytes) ++ optBytes 8 (s.discreteStamp.map ApplyStamp.bytes)

end Sys2Proof.Machine
end

