-- ==== Sys2Proof/Machine/Ops.lean ====
section
/-! DEFINITION. The operations the commands share: readers of the station, event posting, rack-bus requests, supply switches, the claim list, and the actions that one block takes on another's order. Each is a function from state to state. -/

namespace Sys2Proof.Machine

/-! ## Indexed updates -/

/-- `v` with entry `i` replaced. -/
def vset {α : Type} {n : Nat} (v : Vector α n) (i : Fin n) (x : α) : Vector α n := v.set i.val x i.isLt

/-- `v` with entry `i` changed by `f`. -/
def vupd {α : Type} {n : Nat} (v : Vector α n) (i : Fin n) (f : α → α) : Vector α n := vset v i (f v[i])

/-- `v` with every entry changed by `f`. -/
def vmap {α β : Type} {n : Nat} (f : α → β) (v : Vector α n) : Vector β n := Vector.ofFn (fun i => f v[i])

/-! ## Readers -/

/-- The station's index on the rack bus; `none` for STRAP_INVALID (R180). -/
def ownIdx (s : State) : Option StationIdx := stationOf s.cml.strapIndex.toNat

/-- CONFIGURE has been taken. -/
def configured (s : State) : Bool := s.cml.config.isSome

/-- What a parameter reads as before CONFIGURE; no rule reads one then (R184). -/
def StationConfig.unset : StationConfig :=
  { sMax := 0, tInrush := 0, iInrush := 0, iRun := 0, tripDelay := 0, clampLimit := 0, frameMs := 0, promptTime := 0,
    safePattern := 0, bitRate := 0 }

/-- The stored configuration. -/
def conf (s : State) : StationConfig := s.cml.config.getD .unset

/-- The seat pair (2.1). -/
def seatPair (n : Ncu) : Bool := n.seatA.level && n.seatB.level

/-- The halt input of the station (R21). -/
def haltInput (s : State) : Bool := s.ncu.haltIn.level || (s.cml.strapPanel && s.ncu.estop.level)

/-- The halt flag: the halt-source set is not empty (R155). -/
def haltFlag (h : Hfu) : Bool := h.ownMark || h.sources.toList.any id

/-- The reported state (R23). -/
def reportedState (s : State) : Reported :=
  match s.hfu.mode with
  | .normal => .nest s.ncu.nest
  | .halted => .halted
  | .fault => .fault
  | .lockout => .lockout

/-- ATTN is asserted while the event queue holds a record (R178). -/
def attn (s : State) : Bool := !s.cml.events.isEmpty

/-- The feedback sense of a rail. -/
def feedback (s : State) (r : Rail) : Bool :=
  match r with
  | .main => s.pins.mainFb
  | .aux => s.pins.auxFb

/-- The source-good sense of a rail. -/
def sourceGood (s : State) (r : Rail) : Bool :=
  match r with
  | .main => s.pins.mainOk
  | .aux => s.pins.auxOk

/-- A rail's switch. -/
def Dsu.sw (d : Dsu) : Rail → Switch
  | .main => d.main
  | .aux => d.aux

/-- `d` with a rail's switch replaced. -/
def Dsu.setSw (d : Dsu) (r : Rail) (x : Switch) : Dsu :=
  match r with
  | .main => { d with main := x }
  | .aux => { d with aux := x }

/-- The other rail. -/
def otherRail : Rail → Rail
  | .main => .aux
  | .aux => .main

/-- The inverted sample of an observation line (R97). -/
def lineSample (s : State) (l : LineIdx) : Bool := (s.pins.obs.getLsbD l.val) != (s.rcu.lines[l]).invert

/-- The remaining inrush in whole ms (R48); 0 unless the own claim is GRANTED (R15). -/
def remainingInrush (s : State) : Nat :=
  match s.dsu.ownClaim, s.dsu.inrush with
  | .granted, some left => msLeft left
  | _, _ => 0

/-- The beacon the station would assemble now (R15). -/
def ownBeacon (s : State) : Beacon :=
  { reported := reportedState s, haltInput := haltInput s, panelRole := s.prs.role, slotState := s.dsu.ownClaim,
    remaining := remainingInrush s, tInrush := (conf s).tInrush, sMax := (conf s).sMax,
    prompt := s.prs.slot.map (fun p => (p.kind, p.urgent)), message := (s.prs.slot.map (·.message)).getD 0,
    tag := (s.prs.slot.map (·.tag)).getD 0, serial := s.cke.serial, verdict := s.cke.verdict }

/-! ## The event queue (R178) -/

/-- The record is an EVENTS_LOST marker. -/
def EventRecord.isLost (r : EventRecord) : Bool :=
  match r.event with
  | .eventsLost _ _ => true
  | _ => false

/-- One more event counted in a marker; any other record stays. -/
def EventRecord.countLost (r : EventRecord) : EventRecord :=
  match r.event with
  | .eventsLost n k => { r with event := .eventsLost (min (n + 1) 65535) k }
  | _ => r

/-- The queue after a posting (R178). -/
def postTo (q : List EventRecord) (r : EventRecord) : List EventRecord :=
  if q.any EventRecord.isLost then q.map EventRecord.countLost
  else if q.length ≤ 30 then q ++ [r]
  else q ++ [{ event := .eventsLost 1 r.event.kind, frame := r.frame }]

/-- Post an event, stamped with the frame counter (10.5). -/
def post (e : Event) (s : State) : State :=
  s.withCml { s.cml with events := postTo s.cml.events { event := e, frame := s.stu.frame } }

/-! ## Transmit slots (R7, R8) -/

/-- What a queue request came to (R7). -/
inductive ReqResult where
  | taken
  | refused
  | discarded
  deriving DecidableEq, Repr

/-- The transmit slot of a kind. -/
def Rbc.slot (r : Rbc) (k : FrameKind) : TxSlot := r.slots[k.idx]

/-- `r` with a kind's slot replaced. -/
def Rbc.setSlot (r : Rbc) (k : FrameKind) (x : TxSlot) : Rbc := { r with slots := vset r.slots k.idx x }

/-- The transmitter discards queue requests (R7). -/
def TxMode.off : TxMode → Bool
  | .offClash => true
  | .offStrap => true
  | _ => false

/-- A request whose payload replaces a PENDING one (R7). -/
def TxSlot.replaceWith (x : TxSlot) (p : Payload) : TxSlot :=
  match x with
  | .empty => .pending p 0
  | .pending _ _ => .pending p 0
  | .inFlight q a _ c => .inFlight q a (some p) c

/-- A request that leaves a PENDING one in place (R7). -/
def TxSlot.keepOr (x : TxSlot) (p : Payload) : TxSlot :=
  match x with
  | .empty => .pending p 0
  | .pending q a => .pending q a
  | .inFlight q a _ c => .inFlight q a (some p) c

/-- HALT and HALT_CLEAR (R8): a request for the other empties a PENDING slot, and takes the successor from a frame on the line: R8 names only a PENDING and an IN_FLIGHT frame of the other kind, and a HALT or HALT_CLEAR that waits as successor is dropped, so that the later request is sent last (DESIGN CHOICE, log entry 10). -/
def TxSlot.superseded : TxSlot → TxSlot
  | .empty => .empty
  | .pending _ _ => .empty
  | .inFlight q a _ c => .inFlight q a none c

/-- A SLOT_RELEASE request (R8). A PENDING claim is emptied also while a release is on the line, and sets no successor there. A claim that waits as the successor of the one on the line is dropped, and the frame on the line gets its companion (both DESIGN CHOICE, log entry 10: R8 names only a PENDING and an IN_FLIGHT claim). -/
def Rbc.takeRelease (r : Rbc) : Rbc :=
  match r.slot .slotClaim with
  | .pending _ _ => r.setSlot .slotClaim .empty
  | .inFlight q a _ _ => r.setSlot .slotClaim (.inFlight q a none true)
  | .empty => r.setSlot .slotRelease ((r.slot .slotRelease).keepOr .slotRelease)

/-- The tag of a PROMPT_REQ payload. -/
def Payload.reqTag : Payload → Option Tag
  | .promptReq _ _ _ t _ => some t
  | _ => none

/-- A PROMPT_CANCEL request (R8): it pairs with the PROMPT_REQ of the same tag. A request that waits as the successor of a frame on the line is dropped, and no cancel is sent for it (DESIGN CHOICE, log entry 10). -/
def Rbc.takeCancel (r : Rbc) (t : Tag) : Rbc :=
  let alone := r.setSlot .promptCancel ((r.slot .promptCancel).replaceWith (.promptCancel t))
  match r.slot .promptReq with
  | .pending p _ => if p.reqTag = some t then r.setSlot .promptReq .empty else alone
  | .inFlight p a succ c =>
    if p.reqTag = some t then r.setSlot .promptReq (.inFlight p a succ true)
    else if (succ.bind Payload.reqTag) = some t then r.setSlot .promptReq (.inFlight p a none c)
    else alone
  | .empty => alone

/-- A queue request (R7, R8). -/
def Rbc.request (r : Rbc) (p : Payload) : Rbc × ReqResult :=
  if r.tx.off then (r, .discarded)
  else
    let put (k : FrameKind) : Rbc := r.setSlot k ((r.slot k).replaceWith p)
    match p with
    | .halt =>
      ((r.setSlot .haltClear (r.slot .haltClear).superseded).setSlot .halt ((r.slot .halt).keepOr p), .taken)
    | .haltClear _ =>
      ((r.setSlot .halt (r.slot .halt).superseded).setSlot .haltClear ((r.slot .haltClear).replaceWith p), .taken)
    | .slotRelease => (r.takeRelease, .taken)
    | .slotClaim _ => (put .slotClaim, .taken)
    | .promptAnswer _ _ _ =>
      if r.slot .promptAnswer = .empty then (r.setSlot .promptAnswer (.pending p 0), .taken) else (r, .refused)
    | .promptShow _ => (put .promptShow, .taken)
    | .promptCancel t => (r.takeCancel t, .taken)
    | .promptReq _ _ _ _ _ => (put .promptReq, .taken)
    | .result _ _ _ => (put .result, .taken)
    | .beaconDue => (r.setSlot .beacon ((r.slot .beacon).keepOr .beaconDue), .taken)
    | .beacon _ => (r.setSlot .beacon ((r.slot .beacon).keepOr .beaconDue), .taken)

/-- Ask the RBC to queue a frame. -/
def request (p : Payload) (s : State) : State := s.withRbc (s.rbc.request p).1

/-- What the RBC answers a request with. -/
def requestResult (p : Payload) (s : State) : ReqResult := (s.rbc.request p).2

/-- The companion of an accepted frame becomes PENDING (R8). -/
def Rbc.companion (r : Rbc) (p : Payload) : Rbc :=
  match p with
  | .slotClaim _ => r.setSlot .slotRelease (.pending .slotRelease 0)
  | .promptReq _ _ _ t _ => r.setSlot .promptCancel (.pending (.promptCancel t) 0)
  | _ => r

/-- The slot of an accepted frame of this station is settled (R7, R8). -/
def Rbc.settleAccepted (r : Rbc) (k : FrameKind) : Rbc :=
  match r.slot k with
  | .inFlight p _ succ comp =>
    let r := r.setSlot k (match succ with | some q => .pending q 0 | none => .empty)
    if comp then r.companion p else r
  | _ => r

/-- The frame on the line has been overtaken by its pair's later request (R8, HALT and HALT_CLEAR). -/
def Rbc.overtaken (r : Rbc) (k : FrameKind) : Bool :=
  match k with
  | .halt => decide (r.slot .haltClear ≠ .empty)
  | .haltClear => decide (r.slot .halt ≠ .empty)
  | _ => false

/-- What waits again after a veto: a BEACON is reassembled, any other frame keeps its payload (R9). -/
def Payload.again : Payload → Payload
  | .beacon _ => .beaconDue
  | p => p

/-- The slot of a vetoed frame of this station is settled (R7 to R10); the flag says that the frame is abandoned. Where a paired frame holds both a companion and a successor, the companion is dropped and the successor becomes PENDING (DESIGN CHOICE, log entry 10: R8 removes the frame and its companion and names no successor, R7 makes the successor PENDING). -/
def Rbc.settleVetoed (r : Rbc) (k : FrameKind) : Rbc × Bool :=
  match r.slot k with
  | .inFlight p a succ comp =>
    match succ with
    | some q => (r.setSlot k (.pending q 0), false)
    | none =>
      if comp || r.overtaken k then (r.setSlot k .empty, false)
      else if Config.maxAttempts ≤ a + 1 then (r.setSlot k .empty, true)
      else (r.setSlot k (.pending p.again (a + 1)), false)
  | _ => (r, false)

/-- The kind of the frame this station has on the line. -/
def Rbc.onLine (r : Rbc) : Option FrameKind :=
  FrameKind.all.find? (fun k => match r.slot k with | .inFlight _ _ _ _ => true | _ => false)

/-- The kind of the frame the station contends with: the first PENDING slot in kind order (R5). -/
def Rbc.choice (r : Rbc) : Option FrameKind :=
  FrameKind.all.find? (fun k => match r.slot k with | .pending _ _ => true | _ => false)

/-- The deferral position of station `i` for a kind (R4, R6). -/
def Rbc.position (r : Rbc) (i : StationIdx) (k : FrameKind) : Nat :=
  8 + 12 * k.cls + i.val + if k.cls = 2 ∧ r.courtesy then 12 else 0

/-! ## Supply switches (R37 to R39) -/

/-- Command a switch CLOSED: its transition window starts at 5 ms, and its mismatch timer stops (R37, R38). -/
def closeSwitch (r : Rail) (s : State) : State :=
  let x := s.dsu.sw r
  if x.closed then s
  else
    s.withDsu (s.dsu.setSw r
      { x with closed := true, window := some Config.transitionTicks, mismatch := none })

/-- Command a switch OPEN: its transition window starts at 5 ms, and its mismatch and loss timers stop (R37 to R39). -/
def openSwitch (r : Rail) (s : State) : State :=
  let x := s.dsu.sw r
  if x.closed then
    s.withDsu (s.dsu.setSw r
      { closed := false, window := some Config.transitionTicks, mismatch := none, loss := none })
  else s

/-- Command both switches OPEN and end a switch-over without an event (R52). -/
def openBoth (s : State) : State :=
  let s := openSwitch .aux (openSwitch .main s)
  s.withDsu { s.dsu with switchOver := none }

/-- The rails whose switches are closed: the feeding sources (3.1). -/
def feeding (d : Dsu) (r : Rail) : Bool := (d.sw r).closed

/-- The mismatch of a switch is judged by R38: the station is configured and the switch is not the target of a switch-over. -/
def mismatchWatched (s : State) (r : Rail) : Bool :=
  configured s && !(decide ((s.dsu.switchOver.map (·.target)) = some r))

/-- Start the mismatch timer of a watched switch that is not being switched and whose feedback disagrees, where none runs (R38). -/
def judgeMismatch (r : Rail) (s : State) : State :=
  let x := s.dsu.sw r
  if mismatchWatched s r && x.window.isNone && x.mismatch.isNone && (feedback s r != x.closed) then
    s.withDsu (s.dsu.setSw r { x with mismatch := some Config.mismatchTicks })
  else s

/-! ## The claim list (R42 to R45) -/

/-- The position of a station in a claim list. -/
def claimPos (cs : List ClaimEntry) (i : StationIdx) : Option Nat := cs.findIdx? (fun e => e.station = i)

/-- The station is listed. -/
def claimListed (cs : List ClaimEntry) (i : StationIdx) : Bool := cs.any (fun e => e.station = i)

/-- The list without a station's entry. -/
def claimRemove (cs : List ClaimEntry) (i : StationIdx) : List ClaimEntry := cs.filter (fun e => e.station ≠ i)

/-- A SLOT_CLAIM appends an entry at the tail, or gives the listed one its T_INRUSH (R42). -/
def claimAppend (cs : List ClaimEntry) (i : StationIdx) (t : Nat) : List ClaimEntry :=
  if claimListed cs i then cs.map (fun e => if e.station = i then { e with tInrush := t } else e)
  else cs ++ [{ station := i, tInrush := t, fromBeacon := false, expiry := none }]

/-- A learned entry moves ahead, from the tail, of each BEACON entry with a higher index directly in front of it (R43). The list is reversed: its first entry is the one in front. -/
def claimPlace (e : ClaimEntry) : List ClaimEntry → List ClaimEntry
  | [] => [e]
  | x :: xs => if x.fromBeacon && decide (e.station.val < x.station.val) then x :: claimPlace e xs else e :: x :: xs

/-- An entry learned from a beacon (R43). -/
def claimLearn (cs : List ClaimEntry) (e : ClaimEntry) : List ClaimEntry := (claimPlace e cs.reverse).reverse

/-- The claim's position is less than S_EFF (R44). -/
def claimGranted (cs : List ClaimEntry) (sEff : Nat) (i : StationIdx) : Bool :=
  match claimPos cs i with
  | some p => decide (p < sEff)
  | none => false

/-- The first `n` entries whose expiry timer does not run have it started at their T_INRUSH plus 50 ms (R44). -/
def startExpiries : Nat → List ClaimEntry → List ClaimEntry
  | 0, cs => cs
  | _ + 1, [] => []
  | n + 1, e :: cs =>
    { e with expiry := e.expiry.or (some ((e.tInrush + Config.expiryExtraMs) * Config.ticksPerMs)) } :: startExpiries n cs

/-- A withdrawal of the claim (R47). The RBC's discard of the release asks for no action. -/
def withdraw (s : State) : State :=
  let listedOwn := match ownIdx s with | some i => claimListed s.dsu.claims i | none => false
  if decide (s.dsu.ownClaim ≠ .none) || listedOwn then
    let s := request .slotRelease s
    s.withDsu { s.dsu with ownClaim := .none, listed := false, powerWait := none }
  else s

/-! ## The frame counter and the network port on nest moves (R31, R73, R78) -/

/-- The frame counter is set RUNNING, its timer at the full FRAME_MS (R73). -/
def counterRun (s : State) : State :=
  s.withStu { s.stu with counter := .running, frameTimer := some ((conf s).frameMs * Config.ticksPerMs),
                         sinceBoundary := 0 }

/-- The frame counter is set STOPPED with its value kept (R73). -/
def counterStop (s : State) : State := s.withStu { s.stu with counter := .stopped, frameTimer := none }

/-- The frame counter, where RUNNING, becomes FROZEN (R73). -/
def counterFreeze (s : State) : State :=
  if s.stu.counter = .running then s.withStu { s.stu with counter := .frozen, frameTimer := none } else s

/-- The run-time fields of a slot when the scheduler starts: no instance, and a due time at the phase offset (R78, R85). -/
def VnSlot.start (v : VnSlot) : VnSlot :=
  { v with inst := .none, held := none,
           due := if v.enable && decide (v.period ≠ 0) then some (v.phase * Config.ticksPerMs) else none }

/-- The run-time fields of a slot when the scheduler stops: instance and held refresh discarded, no due time (R78, R85). -/
def VnSlot.stop (v : VnSlot) : VnSlot := { v with inst := .none, held := none, due := none }

/-- The port turns OFF; an OFF port stays so (R78). -/
def portOff (s : State) : State :=
  if s.vnp.port = .off then s
  else s.withVnp { s.vnp with port := .off, scheduler := false, slots := vmap VnSlot.stop s.vnp.slots, driven := none }

/-- Entry into POWERED at the port: ACTIVE, counters 0, every next count 0, the scheduler started (R78, R85). -/
def portEnter (s : State) : State :=
  s.withVnp { s.vnp with port := .active, tec := 0, recv := 0, scheduler := true,
                         slots := vmap (fun v => { v.start with nextCount := 0 }) s.vnp.slots, driven := none }

/-- Move the nest state. -/
def setNest (n : NestState) (s : State) : State := s.withNcu { s.ncu with nest := n }

/-- Entry into POWERED (R31): the counter starts at 0 where it is STOPPED and the mode is NORMAL (R73), and the port starts. -/
def enterPowered (s : State) : State :=
  let s := setNest .powered s
  let s := if s.stu.counter = .stopped ∧ s.hfu.mode = .normal then
      counterRun (s.withStu { s.stu with frame := 0 }) else s
  portEnter s

/-- Leave the present nest state for `n`; a move from POWERED is a departure, which stops the counter and turns the port OFF (R31). -/
def leaveFor (n : NestState) (s : State) : State :=
  let was := s.ncu.nest
  let s := setNest n s
  if was = .powered ∧ n ≠ .powered then portOff (counterStop s) else s

/-- The derived nest state (R22). -/
def derivedNest (n : Ncu) : NestState :=
  if n.clampClosed.level then .clamped else if seatPair n then .seated else .empty

/-- Derivation (R22). -/
def derive (s : State) : State := leaveFor (derivedNest s.ncu) s

/-- A running clamp motion is stopped: its coil is de-energized and the motion becomes none. -/
def clearMotion (s : State) : State := s.withNcu { s.ncu with motion := none }

/-- CLAMP_DONE or UNCLAMP_DONE with outcome STOPPED, as the direction was (R34). -/
def motionStopped (d : Direction) (n : NestState) : Event :=
  match d with
  | .closing => .clampDone false n
  | .opening => .unclampDone false n

/-! ## Grants (R44, R47) -/

/-- The time waited since the power-wait timer started (R47), in whole ms. R47 gives ms and no rounding: a part of a ms is rounded down (DESIGN CHOICE, log entry 15). -/
def waitedMs (s : State) : Nat :=
  match s.dsu.powerWait with
  | some left => (Config.powerWaitMs * Config.ticksPerMs - left) / Config.ticksPerMs
  | none => 0

/-- Start the loss timer of a switch closed for power-up while its source-good sense is false (R39). -/
def lossAtPowerUp (r : Rail) (s : State) : State :=
  if sourceGood s r then s else s.withDsu (s.dsu.setSw r { s.dsu.sw r with loss := some Config.lossTicks })

/-- The own claim becomes granted (R47). -/
def grantOwn (s : State) : State :=
  match s.dsu.requested with
  | none => s
  | some rail =>
    let waited := waitedMs s
    let s := lossAtPowerUp rail (closeSwitch rail s)
    let s := s.withDsu { s.dsu with powerWait := none, inrush := some ((conf s).tInrush * Config.ticksPerMs),
                                    overCount := 0, ownClaim := .granted }
    post (.powerGranted rail waited) (enterPowered s)

/-- All that R47 asks for a grant of the own claim. -/
def ownGrantable (s : State) : Bool :=
  match ownIdx s with
  | some i =>
    decide (s.dsu.ownClaim = .waiting) && s.dsu.listed && claimGranted s.dsu.claims s.rbc.sEff i &&
      decide (s.ncu.nest = .powerWait) && decide (s.hfu.mode = .normal)
  | none => false

/-- The grants are judged (R44, R47). -/
def judgeGrants (s : State) : State :=
  let s := s.withDsu { s.dsu with claims := startExpiries s.rbc.sEff s.dsu.claims }
  if ownGrantable s then grantOwn s else s

/-! ## The effective slot limit (R18) -/

/-- The least of the own S_MAX and those of the PRESENT peers whose beacon is held. -/
def sEffOf (s : State) : Nat :=
  let own := (ownIdx s).map (·.val)
  (List.finRange 12).foldl
    (fun m i =>
      let e := s.rbc.peers[i]
      if some i.val = own then m
      else match e.present, e.beacon with
        | true, some b => min m b.sMax
        | _, _ => m)
    (conf s).sMax

/-- Recompute S_EFF; a change that departs from the own S_MAX posts CONFIG_MISMATCH (R18). -/
def recomputeSEff (s : State) : State :=
  let new := sEffOf s
  if new = s.rbc.sEff then s
  else
    let s := s.withRbc { s.rbc with sEff := new }
    if new = (conf s).sMax then s else post (.configMismatch new (conf s).sMax) s

/-! ## The stimulus unit's safe action (R74) -/

/-- A channel set to idle takes the idle values and keeps its last-apply stamp (R56, R74). -/
def Channel.toIdle (c : Channel) : Channel := { Channel.idle with stamp := c.stamp }

/-- The safe action (R74). Before CONFIGURE the pattern is all zeros. -/
def stuSafe (s : State) : State :=
  s.withStu { s.stu with
    channels := vmap Channel.toIdle s.stu.channels, next := Vector.replicate 8 none, second := Vector.replicate 8 none,
    groupNext := none, groupSecond := none, hold := false, discretes := (conf s).safePattern }

/-! ## The prompt slot (8.1) -/

/-- The slot is emptied and its tag becomes the closed tag (R137). -/
def closeSlot (s : State) : State :=
  match s.prs.slot with
  | some p => s.withPrs { s.prs with slot := none, closedTag := some p.tag }
  | none => s

/-- Steps 1 to 3 of R141: PROMPT_CANCEL is queued, the tag becomes the closed tag, the slot is emptied. -/
def cancelSlot (s : State) : State :=
  match s.prs.slot with
  | some p => closeSlot (request (.promptCancel p.tag) s)
  | none => s

/-- The slot at halt entry (R143): PROMPT_CANCEL is queued where the request has not been accepted yet. -/
def slotAtHalt (s : State) : State :=
  match s.prs.slot with
  | some p => if p.answer.isNone then cancelSlot s else closeSlot s
  | none => s

/-- Fill the slot with a request, give it the next tag, and queue its PROMPT_REQ (R138). -/
def fillSlot (holder : Option CheckIdx) (kind : PromptKind) (urgent : Bool) (message duration : Nat) (s : State) : State :=
  let tag := s.prs.tagCounter
  let s := s.withPrs { s.prs with
    slot := some { holder := holder, kind := kind, urgent := urgent, message := message, tag := tag, duration := duration,
                   answer := none, shown := false }
    tagCounter := tag + 1 }
  request (.promptReq kind urgent message tag duration) s

end Sys2Proof.Machine
end

