-- ==== Sys2Proof/Machine/Time.lean ====
section
/-! DEFINITION. The passage of time, in ticks of 100 ns: what every timer, count and waveform of the station does as ticks go by, and which of the station's own events is due (log entries 1 and 3). -/

namespace Sys2Proof.Machine

/-- A timer after `n` ticks. A timer that has run out stays at 0 until its expiry is taken. -/
def down (n : Nat) (t : Timer) : Timer := t.map (· - n)

/-- A debounce timer after `n` ticks. -/
def Debounced.pass (n : Nat) (d : Debounced) : Debounced := { d with timer := down n d.timer }

/-- A key's debounce after `n` ticks. A debounced release is no key event (R149), so it is taken here. -/
def Debounced.passKey (n : Nat) (raw : Bool) (d : Debounced) : Debounced :=
  let t := down n d.timer
  if t = some 0 ∧ raw = false then { level := false, timer := none } else { d with timer := t }

/-- The bus's idle count after `n` ticks (R1). -/
def Rbc.pass (n : Nat) (r : Rbc) : Rbc :=
  let r := { r with listenTimer := down n r.listenTimer, beaconTimer := down n r.beaconTimer,
                    peers := vmap (fun e => { e with silence := down n e.silence }) r.peers }
  if r.bus = .idle then
    let t := r.bitTicks + n
    { r with idleCount := (r.idleCount + t / Config.ticksPerBit) % Config.idleRound, bitTicks := t % Config.ticksPerBit }
  else r

def Ncu.pass (n : Nat) (u : Ncu) : Ncu :=
  { u with motion := u.motion.map (fun m => { m with left := m.left - n }), seatA := u.seatA.pass n,
           seatB := u.seatB.pass n, clampClosed := u.clampClosed.pass n, clampOpen := u.clampOpen.pass n,
           haltIn := u.haltIn.pass n, estop := u.estop.pass n }

def Switch.pass (n : Nat) (x : Switch) : Switch :=
  { x with window := down n x.window, mismatch := down n x.mismatch, loss := down n x.loss }

def Dsu.pass (n : Nat) (d : Dsu) : Dsu :=
  { d with main := d.main.pass n, aux := d.aux.pass n, sampleLeft := d.sampleLeft - n,
           claims := d.claims.map (fun e => { e with expiry := down n e.expiry }), powerWait := down n d.powerWait,
           inrush := down n d.inrush,
           switchOver := d.switchOver.map (fun x => { x with overlap := down n x.overlap, confirm := down n x.confirm }) }

/-- A waveform or pulse after `n` ticks (4.3). A high part or period that has run out waits for its end to be taken. -/
def Drive.pass (n : Nat) : Drive → Drive
  | .off => .off
  | .wave p h left level => .wave p h (if level && decide (h < p) then max (p - h) (left - n) else left - n) level
  | .shot left => .shot (left - n)

/-- A channel held by its gate stands still (R64). -/
def Channel.pass (n : Nat) (c : Channel) : Channel := if c.gated then c else { c with drive := c.drive.pass n }

def Stu.pass (n : Nat) (u : Stu) : Stu :=
  { u with channels := vmap (Channel.pass n) u.channels, frameTimer := down n u.frameTimer,
           sinceBoundary := min (u.sinceBoundary + n) (10 * 1000000) }

def Vnp.pass (n : Nat) (v : Vnp) : Vnp := { v with slots := vmap (fun x => { x with due := down n x.due }) v.slots }

/-- A run count after `n` ticks with a steady sample (R97); it stands at its filter's bound until the edge is taken. -/
def runPass (n filter : Nat) (level sample : Bool) (run : Nat) : Nat :=
  if n = 0 ∨ max filter 1 ≤ run then run else if sample = level then 0 else min (run + n) (max filter 1)

/-- The sample of line `l` with the pins at `obs`. -/
def Rcu.sample (r : Rcu) (obs : BitVec 16) (l : LineIdx) : Bool := (obs.getLsbD l.val) != (r.lines[l]).invert

def Rcu.pass (n : Nat) (obs : BitVec 16) (r : Rcu) : Rcu :=
  { r with
    timebase := r.timebase + BitVec.ofNat 32 n
    lines := Vector.ofFn (fun i =>
      let l := r.lines[i]
      { l with run := runPass n l.filter l.level (r.sample obs i) l.run })
    meas := vmap (fun x => x.map (fun l => { l with run := runPass n l.filter l.level (r.sample obs l.line) l.run })) r.meas }

def RunPart.pass (n : Nat) (p : RunPart) : RunPart :=
  { p with settle := down n p.settle, deadline := down n p.deadline,
           window := p.window.map (fun w => { w with left := down n w.left }) }

def Cke.pass (n : Nat) (c : Cke) : Cke :=
  { c with checks := vmap (fun x => { x with run := x.run.map (RunPart.pass n) }) c.checks }

def Prs.pass (n : Nat) (pins : Pins) (p : Prs) : Prs :=
  { p with slot := p.slot.map (fun x => { x with answer := down n x.answer }),
           queue := p.queue.map (fun e => { e with notice := down n e.notice }), keySettle := down n p.keySettle,
           keyOk := p.keyOk.passKey n pins.keyOk, keyPass := p.keyPass.passKey n pins.keyPass,
           keyFail := p.keyFail.passKey n pins.keyFail, keyHaltReset := p.keyHaltReset.passKey n pins.keyHaltReset }

/-- `n` ticks go by with no event taken. -/
def elapse (n : Nat) (s : State) : State :=
  { s with rbc := s.rbc.pass n, ncu := s.ncu.pass n, dsu := s.dsu.pass n, stu := s.stu.pass n, vnp := s.vnp.pass n,
           rcu := s.rcu.pass n s.pins.obs, cke := s.cke.pass n, prs := s.prs.pass n s.pins }

/-- The expiry of a timer: the time left on it goes by, and then its effect is taken. A stopped timer does not expire. -/
def onExpiry (t : Timer) (effect : State → State) (s : State) : State :=
  match t with
  | some left => effect (elapse left s)
  | none => s

/-! ## What is due -/

/-- The command of a timer that has run out. -/
def ifOut (t : Timer) (c : Instr) : Option Instr := if t = some 0 then some c else none

/-- The first index whose entry gives a command. -/
def firstOf {n : Nat} (f : Fin n → Option Instr) : Option Instr := (List.finRange n).findSome? f

/-- A debounced change that is due. -/
def dueChange (d : Debounced) (c : Bool → Instr) : Option Instr := ifOut d.timer (c (!d.level))

/-- The lines whose run count has reached its bound, as a set. -/
def edgesDue (r : Rcu) : BitVec 16 :=
  (List.finRange 16).foldl
    (fun m i => let l := r.lines[i]; if max l.filter 1 ≤ l.run then m ||| (1#16 <<< i.val) else m) 0

/-- A waveform's end that is due. -/
def dueWave (i : TimedIdx) (c : Channel) : Option Instr :=
  if c.gated then none
  else match c.drive with
    | .off => none
    | .wave p h left level =>
      if left = 0 then some (.periodEnd i) else if level ∧ h < p ∧ left = p - h then some (.highPartEnd i) else none
    | .shot left => if left = 0 then some (.oneshotEnd i) else none

/-- The transmitter stands at the deferral position of its chosen frame (R4, R5). After the listen period a queued frame contends in the idle period that is already running (DESIGN CHOICE, log entry 10). -/
def dueTransmit (s : State) : Option Instr :=
  match ownIdx s, s.rbc.choice with
  | some i, some k =>
    if s.rbc.tx = .on ∧ s.rbc.bus = .idle ∧ s.rbc.idleCount = s.rbc.position i k then some .transmitStart else none
  | _, _ => none

/-- What is due at the windows and the capture. -/
def dueCapture (s : State) : List (Option Instr) :=
  [firstOf (fun i => ifOut ((s.cke.checks[i]).run.bind (fun r => r.window.bind (·.left))) (.windowClose i)),
   if edgesDue s.rcu = 0 then none else some (.lineEdgeAccepted 0 (edgesDue s.rcu)),
   firstOf (fun i => (s.rcu.meas[i]).bind (fun l => if max l.filter 1 ≤ l.run then some (.channelEdge 0 i) else none))]

/-- What is due at the waveforms, the current monitor and the frame timer. -/
def dueStimulus (s : State) : List (Option Instr) :=
  [firstOf (fun i : TimedIdx => dueWave i (s.stu.channels[i.castLE (by decide : 6 ≤ 8)])),
   if s.dsu.sampleLeft = 0 then some (.currentSample s.pins.current) else none,
   ifOut s.stu.frameTimer .frameBoundary]

/-- What is due at the checks' settle and deadline timers. -/
def dueChecks (s : State) : List (Option Instr) :=
  [firstOf (fun i => ifOut ((s.cke.checks[i]).run.bind (·.settle)) (.settleTimerExpiry i)),
   firstOf (fun i => ifOut ((s.cke.checks[i]).run.bind (·.deadline)) (.deadlineExpiry i))]

/-- What is due at the nest. -/
def dueNest (n : Ncu) : List (Option Instr) :=
  [dueChange n.seatA (.seatDebouncedChange .seatA), dueChange n.seatB (.seatDebouncedChange .seatB),
   dueChange n.clampClosed .clampClosedDebouncedChange, dueChange n.clampOpen .clampOpenDebouncedChange,
   dueChange n.haltIn (.haltInputChange .haltIn), dueChange n.estop (.haltInputChange .estop),
   ifOut (n.motion.map (·.left)) .motionTimerExpiry]

/-- What is due at the supply. -/
def dueSupply (d : Dsu) : List (Option Instr) :=
  [ifOut (d.switchOver.bind (·.overlap)) .overlapTimerExpiry, ifOut (d.switchOver.bind (·.confirm)) .confirmationTimerExpiry,
   ifOut d.main.window (.transitionWindowExpiry .main), ifOut d.aux.window (.transitionWindowExpiry .aux),
   ifOut d.main.mismatch (.mismatchTimerExpiry .main), ifOut d.aux.mismatch (.mismatchTimerExpiry .aux),
   ifOut d.main.loss (.lossTimerExpiry .main), ifOut d.aux.loss (.lossTimerExpiry .aux),
   d.claims.findSome? (fun e => ifOut e.expiry (.claimExpiry e.station)), ifOut d.inrush .inrushWindowExpiry,
   ifOut d.powerWait .powerWaitTimeout]

/-- What is due at the prompt slot, the panel queue and the keys. -/
def duePrompts (p : Prs) : List (Option Instr) :=
  [ifOut (p.slot.bind (·.answer)) .answerTimerExpiry,
   p.queue.findSome? (fun e => ifOut e.notice (.noticeTimerExpiry e.station)), ifOut p.keyOk.timer (.keyPress .ok),
   ifOut p.keyPass.timer (.keyPress .pass), ifOut p.keyFail.timer (.keyPress .fail),
   ifOut p.keyHaltReset.timer .haltResetPress, ifOut p.keySettle .keySettleExpiry]

/-- What is due at the rack bus. -/
def dueBus (s : State) : List (Option Instr) :=
  [firstOf (fun i => ifOut (s.rbc.peers[i]).silence (.silenceTimerExpiry i)), ifOut s.rbc.listenTimer .listenTimerExpiry,
   ifOut s.rbc.beaconTimer .beaconTimerExpiry, dueTransmit s]

/-- The station's own event that is due now, if any. Of several, the first in this order is taken (log entry 3). -/
def nextDue (s : State) : Option Instr :=
  (dueCapture s ++ dueStimulus s ++ dueChecks s ++ dueNest s.ncu ++ dueSupply s.dsu ++
    [firstOf (fun i => ifOut (s.vnp.slots[i]).due (.vnDueTime i))] ++ duePrompts s.prs ++ dueBus s).findSome? id

end Sys2Proof.Machine
end

