-- ==== Sys2Proof/Machine/Measure.lean ====
section
/-! DEFINITION. The measurement channels (6.5): lend, windows, channel edges and release. -/

namespace Sys2Proof.Machine

/-- A window as it stands at its opening (R105, R106, R108). -/
def MeasWindow.fresh (openTick : Stamp) (span : Nat) (level : Bool) : MeasWindow :=
  { openTick := openTick, span := span, openLevel := level, edgeSeen := false, first := none, last := openTick, n := 0,
    h := 0, runHigh := 0, runTick := openTick, count := 0, reached := false, overrange := false }

/-- A reference edge in FREQ_DUTY mode, stamped `t`, with the running high time up to it (R106). -/
def MeasWindow.reference (w : MeasWindow) (high : Nat) (t : Stamp) : MeasWindow :=
  match w.first with
  | none => { w with first := some t, last := t, runHigh := 0 }
  | some _ =>
    if w.n < Config.countMax then { w with n := w.n + 1, last := t, h := high } else { w with overrange := true }

/-- A channel edge inside the window in FREQ_DUTY mode; `was` is the channel level before it (R106). -/
def MeasWindow.edgeFreq (w : MeasWindow) (rise was : Bool) (t : Stamp) : MeasWindow :=
  let high := if w.first.isSome && was then w.runHigh + ticksBetween w.runTick t else w.runHigh
  let w := { w with edgeSeen := true, runHigh := high, runTick := t }
  if (!was) = rise then w.reference high t else w

/-- A channel edge inside the window in COUNT mode; the flag says that it brings the count to the threshold (R108). An edge of the other direction leaves the window as it is. -/
def MeasWindow.edgeCount (w : MeasWindow) (rise was : Bool) (theta : Option Nat) : MeasWindow × Bool :=
  if (!was) = rise then
    if w.count < Config.countMax then
      let w := { w with count := w.count + 1 }
      if theta = some w.count ∧ w.reached = false then ({ w with reached := true }, true) else (w, false)
    else ({ w with overrange := true }, false)
  else (w, false)

/-- A channel edge stamped `t` as the window takes it: the level changes; inside the open window the edge is accumulated, and at or after the close tick it is kept for the next window (R105). The stamp is answered where the threshold is reached. -/
def Lent.take (l : Lent) (t : Stamp) : Lent × Option Stamp :=
  let was := l.level
  let l := { l with level := !was }
  match l.window with
  | none => (l, none)
  | some w =>
    if ticksBetween w.openTick t < w.span then
      if l.counts then
        let (w, hit) := w.edgeCount l.rise was l.theta
        ({ l with window := some w }, if hit then some t else none)
      else ({ l with window := some (w.edgeFreq l.rise was t) }, none)
    else ({ l with late := l.late ++ [t] }, none)

/-- A channel edge as it is accepted at stamp `t`: the filter's run count is set to 0 (R104), and the window takes the edge. -/
def Lent.edge (l : Lent) (t : Stamp) : Lent × Option Stamp := Lent.take { l with run := 0 } t

/-- The kept edges are taken again, in order, by the window that has opened. The run count gathered since then stays (R105). -/
def Lent.replay : Lent → List Stamp → Lent × Option Stamp
  | l, [] => (l, none)
  | l, t :: ts =>
    let (l, hit) := l.take t
    let (l, hit') := l.replay ts
    (l, hit.or hit')

/-- A window of `span` ticks opens at `openTick` (R105). Edges kept since then belong to it. -/
def Lent.openAt (l : Lent) (openTick : Stamp) (span : Nat) : Lent × Option Stamp :=
  let level := if l.late.length % 2 = 1 then !l.level else l.level
  Lent.replay { l with level := level, window := some (.fresh openTick span level), late := [] } l.late

/-- The window ends with its results handed (R105). -/
def Lent.shut (l : Lent) : Lent := { l with window := none }

/-- Replace a measurement channel. -/
def setMeas (m : MeasIdx) (x : Option Lent) (s : State) : State :=
  s.withRcu { s.rcu with meas := vset s.rcu.meas m x }

/-- The channel a definition names. -/
def CheckDef.meas (d : CheckDef) : MeasIdx := Fin.ofNat 4 d.channel

/-- The settings of a lend to check `i` (R104, R120); the channel level is the line's sample now. -/
def lendTo (i : CheckIdx) (d : CheckDef) (s : State) : Lent :=
  let line := Fin.ofNat 16 d.line
  { holder := i, line := line, rise := decide (d.edge = 0), filter := d.filter, counts := decide (d.kind = .count),
    theta := if d.kind = .count ∧ d.theta ≠ 0 then some d.theta else none, level := lineSample s line, run := 0,
    window := none, late := [] }

end Sys2Proof.Machine
end

