-- ==== Sys2Proof/Machine/Evaluator.lean ====
section
/-! DEFINITION. The check evaluator (chapter 7): how checks start, settle, receive channels and the prompt slot, open and close windows, end, and are aborted. What one of these brings about in other checks is worked off by `runWork`. -/

namespace Sys2Proof.Machine

/-! ## Checks -/

/-- Replace a check. -/
def setCheck (i : CheckIdx) (c : Check) (s : State) : State := s.withCke { s.cke with checks := vset s.cke.checks i c }

/-- ARMED, SETTLING or OPEN (7.2). -/
def CheckState.isArmed : CheckState → Bool
  | .armed => true
  | .settling => true
  | .opened => true
  | _ => false

/-- DONE or ABORTED (7.2). -/
def CheckState.isEnded : CheckState → Bool
  | .done => true
  | .aborted => true
  | _ => false

/-- The effective K: an OPERATOR check uses 1 (R113, R125). -/
def CheckDef.effK (d : CheckDef) : Nat := if d.kind = .operator then 1 else d.samples

/-- A check's place in arming order: the sequence value first, the index second (R116). -/
def armKey (s : State) (i : CheckIdx) : Nat :=
  ((s.cke.checks[i]).run.map (fun r => r.armSeq.toNat)).getD 0 * 48 + i.val

/-- Put a check into a list held in arming order. -/
def armInsert (s : State) (i : CheckIdx) : List CheckIdx → List CheckIdx
  | [] => [i]
  | j :: js => if armKey s i < armKey s j then i :: j :: js else j :: armInsert s i js

/-- The checks of a list in arming order. -/
def inArmOrder (s : State) (is : List CheckIdx) : List CheckIdx := is.foldr (armInsert s) []

/-- The checks with a property, in ascending index. -/
def checksWith (s : State) (p : CheckIdx → Check → Bool) : List CheckIdx :=
  (List.finRange 48).filter (fun i => p i (s.cke.checks[i]))

/-- The wait list of a measurement channel (R120): the SETTLING checks that wait for it, in arming order. -/
def waitList (s : State) (m : MeasIdx) : List CheckIdx :=
  inArmOrder s (checksWith s (fun _ c =>
    decide (c.state = .settling) && (c.run.map (·.waiting)).getD false && c.defn.kind.usesChannel && decide (c.defn.meas = m)))

/-- The OPERATOR checks that wait for the prompt slot, in arming order (R125). -/
def slotWaiters (s : State) : List CheckIdx :=
  inArmOrder s (checksWith s (fun _ c =>
    decide (c.state = .settling) && (c.run.map (·.waiting)).getD false && decide (c.defn.kind = .operator)))

/-- What one event at the evaluator leaves to be done. -/
inductive Work where
  /-- The settle time of a check has ended (R118). -/
  | settled (i : CheckIdx)
  /-- A check has ended; its AFTER dependents start (R117). -/
  | ended (i : CheckIdx)
  /-- The prompt slot is free (R125). -/
  | slotFree
  /-- A measurement channel is free (R120). -/
  | chanFree (m : MeasIdx)
  deriving DecidableEq, Repr

/-! ## Windows -/

/-- A raw figure with nothing counted. -/
def RawFigure.zero : RawFigure := { matchCount := 0, overrange := false, hit := none, sum := 0, number := 0 }

/-- W in ticks (R122). -/
def CheckDef.span (d : CheckDef) : Nat := d.window * Config.ticksPerMs

/-- The TRACK reference a window takes at its opening (R122). -/
def trackRef (d : CheckDef) (s : State) : Option Int :=
  if d.track ∧ d.kind ≠ .operator then some (s.stu.channels[Fin.ofNat 8 d.trackCh]).realValue else none

/-- A window that opens at `openTick`, `late` ticks ago, with what has been handed for it since. -/
def windowAt (d : CheckDef) (s : State) (openTick : Stamp) (late : Nat) (raw : RawFigure) : CheckWindow :=
  { openTick := openTick, left := if d.kind = .operator then none else some (d.span - late), ref := trackRef d s,
    raw := raw, spill := .zero, spillApply := false }

/-- A threshold that was reached is posted (R108). -/
def postThreshold (i : CheckIdx) (m : MeasIdx) (hit : Option Stamp) (s : State) : State :=
  match hit with
  | some t => post (.countThreshold i m t) s
  | none => s

/-- The first window of a check opens now: the settle and deadline timers stop (R119, R122). -/
def openWindow (i : CheckIdx) (s : State) : State :=
  let c := s.cke.checks[i]
  let now := s.rcu.timebase
  let s := setCheck i { c with
    state := .opened
    run := c.run.map (fun r => { r with settle := none, deadline := none, waiting := false,
                                        window := some (windowAt c.defn s now 0 .zero) }) } s
  if c.defn.kind.usesChannel then
    match s.rcu.meas[c.defn.meas] with
    | some l => setMeas c.defn.meas (some (l.openAt now c.defn.span).1) s
    | none => s
  else s

/-- A sample joins the sample list (R115). -/
def addSample (i : CheckIdx) (x : Sample) (s : State) : State :=
  let c := s.cke.checks[i]
  setCheck i { c with run := c.run.map (fun r => { r with samples := r.samples ++ [x] }) } s

/-- The samples taken so far. -/
def samplesOf (s : State) (i : CheckIdx) : List Sample := ((s.cke.checks[i]).run.map (·.samples)).getD []

/-! ## Endings (R129 to R131) -/

/-- The channel that check `i` holds. -/
def heldChannel (s : State) (i : CheckIdx) : Option MeasIdx :=
  (List.finRange 4).find? (fun m => decide ((s.rcu.meas[m]).map (·.holder) = some i))

/-- The check releases the channel it holds (R109, R121). -/
def releaseChannel (i : CheckIdx) (s : State) : State × List Work :=
  match heldChannel s i with
  | some m => (setMeas m none s, [.chanFree m])
  | none => (s, [])

/-- The ending of a check writes its result part, discards its run-time part, and appends it to the test record (R115, R130). -/
def recordEnding (i : CheckIdx) (state : CheckState) (verdict : Verdict) (cause : Option AbortCause) (extra : Flags)
    (s : State) : State :=
  let c := s.cke.checks[i]
  let r := resultPart c.defn.effK (samplesOf s i) verdict cause extra s.stu.frame s.rcu.timebase
  let s := setCheck i { c with state := state, run := none } s
  s.withCke { s.cke with record := s.cke.record ++ [{ check := i, kind := c.defn.kind, result := r }] }

/-- The check ends DONE (R129). -/
def endDone (i : CheckIdx) (extra : Flags) (s : State) : State × List Work :=
  let c := s.cke.checks[i]
  let samples := samplesOf s i
  let verdict := aggregateVerdict c.defn.effK samples
  let (s, free) := releaseChannel i s
  let s := recordEnding i .done verdict none extra s
  (post (.checkDone i verdict (validEngs samples).length) s, free ++ [.ended i])

/-- The prompt slot of an aborted check is emptied: at a halt as R143 states, and otherwise as at CANCEL_PROMPT (R131, R141). -/
def endPrompt (cause : AbortCause) (s : State) : State := if cause = .halt then slotAtHalt s else cancelSlot s

/-- One check of a set is aborted (R131, steps 1 to 6). What it frees and ends is left to be done. -/
def abortOne (cause : AbortCause) (i : CheckIdx) (s : State) : State × List Work :=
  if (s.cke.checks[i]).state.isArmed then
    let (s, free) := releaseChannel i s
    let holds := decide ((s.prs.slot.map (·.holder)) = some (some i))
    let (s, free) := if holds then (endPrompt cause s, free ++ [.slotFree]) else (s, free)
    (recordEnding i .aborted .aborted (some cause) Flags.none s, free ++ [.ended i])
  else (s, [])

/-- The checks of a list are aborted, in its order (R132). -/
def abortList (cause : AbortCause) : List CheckIdx → State → State × List Work
  | [], s => (s, [])
  | i :: is, s =>
    let (s, w) := abortOne cause i s
    let (s, ws) := abortList cause is s
    (s, w ++ ws)

/-! ## Starting (R117, R118) -/

/-- An ARMED check meets its start condition (R117). A settle time of 0 has ended as it starts (R118). -/
def meetStart (tick : Stamp) (i : CheckIdx) (s : State) : State :=
  let c := s.cke.checks[i]
  setCheck i { c with
    state := .settling
    run := c.run.map (fun r => { r with
      start := some { frame := s.stu.frame, tick := tick }
      settle := if c.defn.settle = 0 then none else some (c.defn.settle * Config.ticksPerMs)
      deadline := if c.defn.deadline = 0 then none else some (c.defn.deadline * Config.ticksPerMs)
      waiting := false }) } s

/-- The checks of a list with a settle time of 0, in arming order, have settled. R118 gives no order to checks of different commands that settle at one event and ask for the same free channel or slot; the one armed first goes first (DESIGN CHOICE, log entry 20). -/
def settledAtOnce (s : State) (is : List CheckIdx) : List Work :=
  (inArmOrder s (is.filter (fun i => decide ((s.cke.checks[i]).defn.settle = 0)))).map .settled

/-- The checks of a list meet their start condition at one event. -/
def startList (tick : Stamp) (is : List CheckIdx) (s : State) : State × List Work :=
  let s := is.foldl (fun s i => meetStart tick i s) s
  (s, settledAtOnce s is)

/-- The ARMED checks whose start condition an event meets; start conditions are taken in NORMAL (R117). -/
def startOn (tick : Stamp) (p : CheckDef → Bool) (s : State) : State × List Work :=
  if s.hfu.mode = .normal then startList tick (checksWith s (fun _ c => decide (c.state = .armed) && p c.defn)) s
  else (s, [])

/-! ## Work -/

/-- The free channel is lent to the first check of its wait list, which opens (R120). -/
def lendFirst (m : MeasIdx) (s : State) : State :=
  match s.rcu.meas[m], waitList s m with
  | none, i :: _ => openWindow i (setMeas m (some (lendTo i (s.cke.checks[i]).defn s)) s)
  | _, _ => s

/-- The empty prompt slot is taken by the first OPERATOR check that waits for it (R125). A request the RBC discards gives the sample INVALID with flag TIMEOUT (R138). -/
def slotToFirst (s : State) : State × List Work :=
  match s.prs.slot, slotWaiters s with
  | none, i :: _ =>
    let d := (s.cke.checks[i]).defn
    let sent := !s.rbc.tx.off
    let s := openWindow i (fillSlot (some i) .judge d.urgent d.message 0 s)
    if sent then (s, [])
    else
      let s := addSample i (invalidSample { Flags.none with timeout := true }) (closeSlot s)
      let (s, w) := endDone i Flags.none s
      (s, .slotFree :: w)
  | _, _ => (s, [])

/-- A check whose settle time has ended requests its channel or the prompt slot, or opens (R118). -/
def settleEnded (i : CheckIdx) (s : State) : State × List Work :=
  let c := s.cke.checks[i]
  if c.state = .settling then
    let wait := setCheck i { c with run := c.run.map (fun r => { r with settle := none, waiting := true }) } s
    if c.defn.kind.usesChannel then (wait, [.chanFree c.defn.meas])
    else if c.defn.kind = .operator then (wait, [.slotFree])
    else (openWindow i s, [])
  else (s, [])

/-- One piece of work, and what it leaves to be done. -/
def stepWork (w : Work) (s : State) : State × List Work :=
  match w with
  | .settled i => settleEnded i s
  | .ended j => startOn s.rcu.timebase (fun d => decide (d.cond = 4) && decide (d.condArg = j.val)) s
  | .slotFree => slotToFirst s
  | .chanFree m => (lendFirst m s, [])

/-- Work off what is to be done, the newest first. A check is started, settled and ended at most once in one run, so the bound is not reached (log entry 20). -/
def runWork : Nat → List Work → State → State
  | 0, _, s => s
  | _ + 1, [], s => s
  | n + 1, w :: ws, s =>
    let (s, more) := stepWork w s
    runWork n (more ++ ws) s

/-- Work off all that is to be done. -/
def settleWork (x : State × List Work) : State := runWork 512 x.2 x.1

/-- Abort a set of checks: first every check, in ascending index; then the freed channels and slot are handed on; then AFTER dependents start (R131, R132). That nothing is handed on before the last check of the set is aborted is a DESIGN CHOICE (log entry 20). -/
def abortSet (cause : AbortCause) (p : CheckIdx → Check → Bool) (s : State) : State :=
  let (s, ws) := abortList cause (checksWith s (fun i c => c.state.isArmed && p i c)) s
  let isEnd (w : Work) : Bool := match w with | .ended _ => true | _ => false
  settleWork (s, ws.filter (fun w => !isEnd w) ++ ws.filter isEnd)

/-- Abort every armed check (R132). -/
def abortAll (cause : AbortCause) (s : State) : State := abortSet cause (fun _ _ => true) s

/-- At a contained fault entry the aborts start no dependent (R131, step 7), and no check is left to hand a resource to. -/
def abortContained (s : State) : State :=
  (abortList .fault
    (checksWith s (fun _ c => decide (c.state = .settling) || decide (c.state = .opened))) s).1

/-! ## Window close (R122, R123) -/

/-- The raw figure of a window of check `i` at its close, with its source's flags (R123). It is also the running raw figure of an open window, whose forming R115 leaves open: the figure that a close at that instant would give, and 0 where there is none yet (VN_FIELD without a hit that holds the field, CURRENT without a sample) and in an OPERATOR window (DESIGN CHOICE, log entry 7). -/
def rawFigure (i : CheckIdx) (w : CheckWindow) (s : State) : Int × Flags :=
  let d := (s.cke.checks[i]).defn
  let meas : Option MeasWindow := (s.rcu.meas[d.meas]).bind (·.window)
  match d.kind with
  | .freq =>
    match meas with
    | some m =>
      let (f, _, fl) := freqDutyResult m
      (f, { fl with static := false, noSignal := fl.noSignal || fl.static })
    | none => (0, { Flags.none with noSignal := true })
  | .duty =>
    match meas with
    | some m =>
      let (_, duty, fl) := freqDutyResult m
      (duty, fl)
    | none => (0, { Flags.none with noSignal := true })
  | .count =>
    match meas with
    | some m => (m.count, { Flags.none with overrange := m.overrange })
    | none => (0, Flags.none)
  | .level => (if (s.rcu.lines[Fin.ofNat 16 d.line]).level then 1 else 0, Flags.none)
  | .pattern => (w.raw.matchCount, { Flags.none with overrange := w.raw.overrange })
  | .vnField =>
    match w.raw.hit with
    | some h =>
      if fieldFits d.big d.start d.width h.data.length then (readField h.data d.big d.signed d.start d.width, Flags.none)
      else (0, { Flags.none with noSignal := true })
    | none => (0, { Flags.none with noSignal := true })
  | .current =>
    if w.raw.number = 0 then (0, { Flags.none with noSignal := true })
    else (roundHalfUp w.raw.sum w.raw.number, Flags.none)
  | .none => (0, Flags.none)
  | .operator => (0, Flags.none)

/-- A disturbed window ends at once (R124): the sample is INVALID with flag DISTURBED; the check ends at its K-th sample, and otherwise settles again. -/
def disturb (i : CheckIdx) (s : State) : State × List Work :=
  let s := addSample i (invalidSample { Flags.none with disturbed := true }) s
  let c := s.cke.checks[i]
  if c.defn.effK ≤ (samplesOf s i).length then
    endDone i Flags.none s
  else
    let (s, free) := releaseChannel i s
    (setCheck i { c with
      state := .settling
      run := c.run.map (fun r => { r with
        window := none
        settle := if c.defn.settle = 0 then none else some (c.defn.settle * Config.ticksPerMs)
        waiting := false }) } s, free)

/-- The next window of check `i` opens at the close tick of the last (R122), with what was handed for it since. R105 and R124 put a channel edge and an apply event of the close tick both in this window and give the two no order: the edges kept are replayed first, so that COUNT_THRESHOLD may be posted, and the apply event then disturbs the window, whichever was taken first (DESIGN CHOICE, log entry 20). -/
def nextWindow (i : CheckIdx) (w : CheckWindow) (s : State) : State × List Work :=
  let c := s.cke.checks[i]
  let d := c.defn
  let openTick := w.openTick + BitVec.ofNat 32 d.span
  let late := ticksBetween openTick s.rcu.timebase
  let s := setCheck i { c with run := c.run.map (fun r => { r with window := some (windowAt d s openTick late w.spill) }) } s
  let (s, hit) :=
    if d.kind.usesChannel then
      match s.rcu.meas[d.meas] with
      | some l =>
        let (l, hit) := l.shut.openAt openTick d.span
        (setMeas d.meas (some l) s, hit)
      | none => (s, none)
    else (s, none)
  let s := postThreshold i d.meas hit s
  let (s, ws) :=
    match hit with
    | some t => startOn t (fun e => decide (e.cond = 3) && decide (e.condArg = i.val)) s
    | none => (s, [])
  if w.spillApply && !d.tolerate then
    let (s, ws') := disturb i s
    (s, ws' ++ settledAtOnce s ([i].filter (fun _ => decide ((s.cke.checks[i]).state = .settling))) ++ ws)
  else (s, ws)

/-- The window of check `i` closes: its sample is judged, and the next window opens or the check ends (R122). -/
def closeWindow (i : CheckIdx) (s : State) : State :=
  match (s.cke.checks[i]).run.bind (·.window) with
  | none => s
  | some w =>
    let d := (s.cke.checks[i]).defn
    let (raw, fl) := rawFigure i w s
    let s := addSample i (judgeSample d w.ref raw fl) s
    if d.effK ≤ (samplesOf s i).length then settleWork (endDone i Flags.none s) else settleWork (nextWindow i w s)

/-- The deadline of a check expires (R119). -/
def expireDeadline (i : CheckIdx) (s : State) : State :=
  if (s.cke.checks[i]).state = .settling then settleWork (endDone i { Flags.none with late := true } s) else s

/-! ## What other blocks hand over -/

/-- An apply event (R118, R124): every SETTLING check settles again, and the windows it lies in are disturbed. The manual gives the two no order: the SETTLING checks leave their wait lists first, so a channel that a disturbed check releases at the same event finds no waiter but those whose settle time is 0 (DESIGN CHOICE, log entry 20). Nor does it give the disturbed checks an order among themselves, which their CHECK_DONE events and test-record entries show: they are taken in ascending check index (DESIGN CHOICE, log entry 20). -/
def applyEvent (s : State) : State :=
  let settling := checksWith s (fun _ c => decide (c.state = .settling))
  let opened := checksWith s (fun _ c =>
    decide (c.state = .opened) && !c.defn.tolerate && decide (c.defn.kind ≠ .operator))
  let again (s : State) (i : CheckIdx) : State :=
    let c := s.cke.checks[i]
    setCheck i { c with run := c.run.map (fun r => { r with
      settle := if c.defn.settle = 0 then none else some (c.defn.settle * Config.ticksPerMs), waiting := false }) } s
  let s := settling.foldl again s
  let hit (x : State × List Work) (i : CheckIdx) : State × List Work :=
    let c := x.1.cke.checks[i]
    match c.run.bind (·.window) with
    | none => x
    | some w =>
      if w.left = some 0 then
        (setCheck i { c with run := c.run.map (fun r => { r with window := some { w with spillApply := true } }) } x.1, x.2)
      else
        let (s, ws) := disturb i x.1
        (s, x.2 ++ ws)
  let (s, ws) := opened.foldl hit (s, [])
  let now := (settling ++ opened).filter (fun i => decide ((s.cke.checks[i]).state = .settling))
  settleWork (s, settledAtOnce s now ++ ws)

/-- A figure handed to an open window. One handed at or after the close tick of a window whose close is not yet taken belongs to the next window. -/
def CheckWindow.hand (f : RawFigure → RawFigure) (w : CheckWindow) : CheckWindow :=
  if w.left = some 0 then { w with spill := f w.spill } else { w with raw := f w.raw }

/-- Change the raw figure of a check's open window. -/
def Check.hand (f : RawFigure → RawFigure) (c : Check) : Check :=
  { c with run := c.run.map (fun r => { r with window := r.window.map (CheckWindow.hand f) }) }

/-- Change the raw figure of every OPEN check with a property: every figure taken while the check is OPEN counts. R123 counts from the opening tick on, and states no result for a match, a filter hit or a current sample that is taken at that tick but ahead of the opening event: it is not counted, as no window stands to take it (DESIGN CHOICE, log entry 22). -/
def handRaw (p : CheckDef → Bool) (f : RawFigure → RawFigure) (s : State) : State :=
  s.withCke { s.cke with
    checks := vmap (fun c => if decide (c.state = .opened) && p c.defn then c.hand f else c) s.cke.checks }

/-- One more match in a raw figure, saturating (R123). As for COUNT (R108), the first match past 16,777,215 sets OVERRANGE (DESIGN CHOICE, log entry 22). -/
def RawFigure.addMatch (r : RawFigure) : RawFigure :=
  if r.matchCount < Config.countMax then { r with matchCount := r.matchCount + 1 } else { r with overrange := true }

/-- A match of a group is handed over (R102): ON_MATCH starts, then the counts of the OPEN PATTERN checks (log entry 24). -/
def handMatch (g : GroupIdx) (s : State) : State :=
  let s := settleWork (startOn s.rcu.timebase (fun d => decide (d.cond = 2) && decide (d.condArg = g.val)) s)
  handRaw (fun d => decide (d.kind = .pattern) && decide (d.group = g.val)) RawFigure.addMatch s

/-- A filter hit is handed over (R93, R123). -/
def handHit (h : Hit) (s : State) : State :=
  handRaw (fun d => decide (d.kind = .vnField) && decide (d.rxFilter = h.filter.val)) (fun r => { r with hit := some h }) s

/-- A current sample is handed over (R40, R123). -/
def handCurrent (x : Nat) (s : State) : State :=
  handRaw (fun d => decide (d.kind = .current)) (fun r => { r with sum := r.sum + x, number := r.number + 1 }) s

/-- A count threshold is handed over (R108). -/
def handThreshold (i : CheckIdx) (t : Stamp) (s : State) : State :=
  settleWork (startOn t (fun d => decide (d.cond = 3) && decide (d.condArg = i.val)) s)

/-- The frame counter has reached a value (R117, AT_FRAME). -/
def handFrame (s : State) : State :=
  settleWork (startOn s.rcu.timebase (fun d => decide (d.cond = 1) && decide (d.condArg = s.stu.frame.toNat)) s)

/-- The slot that the prompt of a check held has been emptied, and the check takes the outcome (R125): the slot is handed on, and the check ends with this sample. -/
def handOutcome (holder : Option CheckIdx) (x : Sample) (s : State) : State :=
  match holder with
  | none => settleWork (s, [.slotFree])
  | some i =>
    if (s.cke.checks[i]).state = .opened then
      let (s, ws) := endDone i Flags.none (addSample i x s)
      settleWork (s, .slotFree :: ws)
    else settleWork (s, [.slotFree])

/-- The sample of an answer (R125). -/
def answerSample (pass : Bool) : Sample :=
  { verdict := if pass then .pass else .fail, eng := some (if pass then 1 else 0), flags := Flags.none }

/-- The sample of a prompt that ended in any other way (R125). -/
def timeoutSample : Sample := invalidSample { Flags.none with timeout := true }

end Sys2Proof.Machine
end

