-- ==== Sys2Proof/Machine/Mode.lean ====
section
/-! DEFINITION. The station mode (chapter 9): halt entry and exit, fault entry, LOCKOUT, and what the halt flag and the fault causes do in each mode. -/

namespace Sys2Proof.Machine

/-! ## What the blocks do on the HFU's order -/

/-- The DSU at halt entry (R53). -/
def supplyAtHalt (s : State) : State :=
  let s := openBoth s
  let held := decide (s.dsu.ownClaim ≠ .none)
  let s := s.withDsu { s.dsu with inrush := none, powerWait := none, claims := [] }
  if held then withdraw s else s

/-- The NCU stops a running clamp motion; `post` gives the event's nest state after what `f` does (R34, R35). -/
def stopMotion (f : State → State) (s : State) : State :=
  match s.ncu.motion with
  | some m =>
    let s := f (clearMotion s)
    post (motionStopped m.dir s.ncu.nest) s
  | none => f s

/-- The DSU under a severe cause with this nest state held (R54); both switches are open after it in every nest state (R164, R168). -/
def supplySevere (n : NestState) (s : State) : State :=
  match n with
  | .powerWait => withdraw (openBoth s)
  | .powered =>
    let s := openBoth s
    let s := s.withDsu { s.dsu with inrush := none }
    if s.dsu.ownClaim = .granted then withdraw s else s.withDsu { s.dsu with ownClaim := .none }
  | _ => openBoth s

/-- A switch-over fails (R52): its target is commanded OPEN, and SWITCH_FAILED is posted with the reason's position among NO_FEEDBACK, SOURCE_LOST and FAULT. -/
def failSwitchOver (reason : Nat) (s : State) : State :=
  match s.dsu.switchOver with
  | some x =>
    let s := openSwitch x.target s
    post (.switchFailed x.target reason) (s.withDsu { s.dsu with switchOver := none })
  | none => s

/-- The DSU under a contained cause with this nest state held (R54). -/
def supplyContained (n : NestState) (s : State) : State :=
  match n with
  | .powerWait => withdraw s
  | .powered => failSwitchOver 2 s
  | _ => s

/-! ## Halt (R160 to R162) -/

/-- The halt-source set as HALT_ENTERED reports it. -/
def haltEnteredEvent (s : State) : Event := .haltEntered s.hfu.sources s.hfu.ownMark s.ncu.nest

def setMode (m : Mode) (s : State) : State := s.withHfu { s.hfu with mode := m }

/-- Halt entry from NORMAL (R160). -/
def haltEntry (s : State) : State :=
  let s := supplyAtHalt (setMode .halted s)
  let s := stuSafe (stopMotion derive s)
  let s := abortAll .halt s
  let s := settleWork (slotAtHalt s, [.slotFree])
  post (haltEnteredEvent s) s

/-- Change the contents of the fault record. -/
def updEntry (f : FaultEntry → FaultEntry) (s : State) : State := s.withHfu { s.hfu with entry := s.hfu.entry.map f }

/-- Halt entry in FAULT (R161). -/
def haltEntryInFault (s : State) : State :=
  let s := updEntry (fun e => { e with recoverable := false }) s
  let s := stopMotion id (supplyAtHalt s)
  let s := stuSafe (portOff s)
  let s := abortSet .halt (fun _ c => decide (c.state = .armed)) s
  let s := settleWork (slotAtHalt s, [.slotFree])
  post (haltEnteredEvent s) s

/-- Halt exit (R162). -/
def haltExit (s : State) : State :=
  let s := derive (setMode .normal s)
  post (.haltCleared s.ncu.nest) s

/-- The halt flag is judged after a change of the halt-source set; `was` is the flag before it (R155). -/
def judgeHalt (was : Bool) (s : State) : State :=
  let now := haltFlag s.hfu
  if configured s = false ∨ now = was then s
  else match now, s.hfu.mode with
    | true, .normal => haltEntry s
    | true, .fault => haltEntryInFault s
    | false, .halted => haltExit s
    | false, .fault => post (.haltCleared s.ncu.nest) s
    | _, _ => s

/-- Change the halt-source set and judge the halt flag. -/
def changeSources (f : Hfu → Hfu) (s : State) : State := judgeHalt (haltFlag s.hfu) (s.withHfu (f s.hfu))

/-- Enter or remove a station index. -/
def Hfu.setSource (i : StationIdx) (b : Bool) (h : Hfu) : Hfu := { h with sources := vset h.sources i b }

/-- Enter or remove the own member (R156). -/
def setOwnMember (own : Option StationIdx) (b : Bool) (h : Hfu) : Hfu :=
  match own with
  | some i => h.setSource i b
  | none => { h with ownMark := b }

/-! ## Faults (R164, R168, R169) -/

/-- The record's values that fault entry captures (R164 step 1, R165). -/
def captureFault (c : Cause) (s : State) : FaultEntry :=
  { cause := c, entryMode := s.hfu.mode, haltFlag := haltFlag s.hfu, nest := s.ncu.nest, mainClosed := s.dsu.main.closed,
    auxClosed := s.dsu.aux.closed, frame := s.stu.frame, sample := s.dsu.latestSample, tick := s.rcu.timebase,
    aborted := 0, lowest := none, checkOpen := false, recoverable := false, second := none, later := 0 }

/-- Fault entry (R164). The nest state is captured and held as it stands (R35). -/
def faultEntry (c : Cause) (s : State) : State :=
  let e := captureFault c s
  let s := stopMotion id s
  let opened := !(checksWith s (fun _ k => decide (k.state = .opened))).isEmpty
  let hit := checksWith s (fun _ k => k.state.isArmed && (c.severe || decide (k.state ≠ .armed)))
  let s := if c.severe then abortAll .fault s else abortContained s
  let s := counterFreeze s
  let s := if c.severe then portOff (stuSafe (supplySevere e.nest s)) else supplyContained e.nest s
  let recoverable := !c.severe && !opened
  let e := { e with aborted := hit.length, lowest := hit.head?, checkOpen := opened, recoverable := recoverable }
  let s := s.withHfu { s.hfu with mode := .fault, recState := .opened, entry := some e }
  post (.faultEntered c recoverable e.nest) s

/-- LOCKOUT entry with a second cause (R168). -/
def lockoutEntry (c : Cause) (s : State) : State :=
  let s := updEntry (fun e => { e with second := some (c, s.rcu.timebase), recoverable := false }) s
  let s := withdraw (supplySevere s.ncu.nest s)
  let s := portOff (counterStop (stuSafe s))
  let s := abortSet .fault (fun _ k => decide (k.state = .armed)) s
  let s := settleWork (cancelSlot s, [.slotFree])
  let s := setMode .lockout s
  match s.hfu.entry with
  | some e => post (.lockoutEntered e.cause c) s
  | none => s

/-- A fault cause is raised (R163). Before CONFIGURE none is (R155). -/
def raiseFault (c : Cause) (s : State) : State :=
  if configured s then
    match s.hfu.mode with
    | .normal => faultEntry c s
    | .halted => faultEntry c s
    | .fault => lockoutEntry c s
    | .lockout => updEntry (fun e => { e with later := min (e.later + 1) 255 }) s
  else s

end Sys2Proof.Machine
end

