-- ==== Sys2Proof/Machine/Panel.lean ====
section
/-! DEFINITION. The panel station's part of the prompt service (8.2 to 8.6): the prompt queue, the head change, the display, and the results board. -/

namespace Sys2Proof.Machine

/-- The identity of the head entry: its station and tag (R148). -/
def headId (q : List QueueEntry) : Option (StationIdx × Tag) := q.head?.map (fun e => (e.station, e.tag))

/-- A NOTICE that is head has its notice timer started at its duration, where it does not run yet (R146). Where a request replaces the head entry in place, R144 discards the entry's timer and no head change follows; the timer starts again at the full duration at once (DESIGN CHOICE, log entry 23). -/
def startNotice : List QueueEntry → List QueueEntry
  | [] => []
  | e :: q =>
    if e.kind = .notice then { e with notice := e.notice.or (some (e.duration * Config.ticksPerS)) } :: q else e :: q

/-- Change the prompt queue; a head change queues PROMPT_SHOW and starts the key settle time (R148). -/
def changeQueue (f : List QueueEntry → List QueueEntry) (s : State) : State :=
  if s.prs.role then
    let old := headId s.prs.queue
    let q := startNotice (f s.prs.queue)
    let s := s.withPrs { s.prs with queue := q }
    if headId q = old then s
    else
      let s := request (.promptShow (headId q)) s
      s.withPrs { s.prs with keySettle := some Config.keySettleTicks }
  else s

/-- Place an entry behind every entry of its priority (R144). -/
def queueInsert (q : List QueueEntry) (e : QueueEntry) : List QueueEntry :=
  if e.urgent then q.filter (·.urgent) ++ e :: q.filter (fun x => !x.urgent) else q ++ [e]

/-- An accepted PROMPT_REQ adds an entry, or replaces the station's entry (R144). -/
def queueReq (e : QueueEntry) (q : List QueueEntry) : List QueueEntry :=
  match q.find? (fun x => x.station = e.station) with
  | none => queueInsert q e
  | some x =>
    if x.urgent = e.urgent then q.map (fun y => if y.station = e.station then e else y)
    else queueInsert (q.filter (fun y => y.station ≠ e.station)) e

/-- Remove a station's entry where it has a property (R145). -/
def queueDrop (i : StationIdx) (p : QueueEntry → Bool) (q : List QueueEntry) : List QueueEntry :=
  q.filter (fun e => !(decide (e.station = i) && p e))

/-- A beacon removes the sender's ACTION or JUDGE entry when it shows the slot empty or another tag (R145). -/
def queueBeacon (i : StationIdx) (b : Beacon) : List QueueEntry → List QueueEntry :=
  queueDrop i (fun e => decide (e.kind ≠ .notice) && (b.prompt.isNone || decide (b.tag ≠ e.tag)))

/-- An entry from a beacon's pending prompt (R151). -/
def rebuiltEntry (i : StationIdx) (b : Beacon) : Option QueueEntry :=
  match b.prompt with
  | some (k, u) =>
    if k = .notice then none
    else some { station := i, kind := k, urgent := u, message := b.message, tag := b.tag, duration := 0, notice := none }
  | none => none

/-- The queue is rebuilt from the peer view in ascending index (R151). -/
def rebuildQueue (s : State) : State :=
  let add (q : List QueueEntry) (i : StationIdx) : List QueueEntry :=
    let e := s.rbc.peers[i]
    if some i = ownIdx s ∨ e.present = false ∨ q.any (fun x => x.station = i) then q
    else match e.beacon.bind (rebuiltEntry i) with
      | some x => queueInsert q x
      | none => q
  changeQueue (fun q => (List.finRange 12).foldl add q) s

/-- The panel role is given up to station `i` (R152). Its emptying of a queue that was not empty starts no key settle time, and one that runs runs on: R148 starts it when the queue becomes empty, while R152 lists what the yielding does without it and exempts PROMPT_SHOW alone (DESIGN CHOICE, log entry 23). -/
def yieldRole (i : StationIdx) (s : State) : State :=
  let s := s.withPrs { s.prs with queue := [], role := false, yielded := true }
  post (.panelYielded i) s

/-- A beacon with the panel-role flag makes the station give up the role (R152): from a lower index than its own, or from any index where the station has none. -/
def judgePanel (i : StationIdx) (b : Beacon) (s : State) : State :=
  let lower := match ownIdx s with | some own => decide (i.val < own.val) | none => true
  if s.prs.role && b.panelRole && lower then yieldRole i s else s

/-! ## Results board (R153) -/

/-- Replace a board entry; only a station with the PANEL strap keeps a board, and only from CONFIGURE on (R153, R154). -/
def changeBoard (i : StationIdx) (f : Option BoardEntry → Option BoardEntry) (s : State) : State :=
  if s.cml.strapPanel && configured s then s.withPrs { s.prs with board := vupd s.prs.board i f } else s

/-- A beacon's last result fills the entry where it is absent or has another serial. -/
def boardBeacon (b : Beacon) (x : Option BoardEntry) : Option BoardEntry :=
  match b.verdict with
  | none => x
  | some v =>
    if (x.map (·.serial)) = some b.serial then x
    else some { serial := b.serial, verdict := v, counts := none, fromResult := false, stale := false }

/-! ## Display (R147, R150) -/

/-- The characters of a text. -/
def textBytes (t : String) : List Byte := t.toList.map (fun c => BitVec.ofNat 8 c.toNat)

/-- A display line: 40 characters, filled up with spaces. -/
def displayLine (t : List Byte) : List Byte := (t ++ List.replicate 40 (32 : Byte)).take 40

/-- A decimal digit's character. -/
def digit (n : Nat) : Byte := BitVec.ofNat 8 (48 + n % 10)

/-- A number of up to three digits in decimal without leading zeros. -/
def decimal (n : Nat) : List Byte :=
  if n < 10 then [digit n] else if n < 100 then [digit (n / 10), digit n] else [digit (n / 100), digit (n / 10), digit n]

/-- A message's text, or MESSAGE and its number in three digits where it has none (R150). -/
def messageText (p : Prs) (n : Nat) : List Byte :=
  let text := p.messages.toList.getD n []
  if text = [] then textBytes "MESSAGE " ++ [digit (n / 100), digit (n / 10), digit n] else text

/-- The number of board entries not marked STALE with a verdict. -/
def boardCount (p : Prs) (v : StationVerdict) : Nat :=
  (p.board.toList.filter (fun x => match x with | some e => !e.stale && decide (e.verdict = v) | none => false)).length

/-- The two lines of the panel station's display (R147). A station without the PANEL strap has none. -/
def display (s : State) : Option (List Byte × List Byte) :=
  let p := s.prs
  if s.cml.strapPanel then
    if configured s = false then some (displayLine [], displayLine [])
    else if p.yielded then some (displayLine (textBytes "PANEL CONFLICT"), displayLine [])
    else match p.queue with
      | e :: q =>
        some (displayLine (messageText p e.message),
          displayLine (textBytes "NEST " ++ [digit (e.station.val / 10), digit e.station.val] ++ textBytes " WAITING " ++
            decimal q.length))
      | [] =>
        some (displayLine [],
          displayLine (textBytes "PASS " ++ decimal (boardCount p .pass) ++ textBytes " MARGINAL " ++
            decimal (boardCount p .marginal) ++ textBytes " FAIL " ++ decimal (boardCount p .fail) ++
            textBytes " INCOMPLETE " ++ decimal (boardCount p .incomplete)))
  else none

end Sys2Proof.Machine
end

