-- ==== Sys2Proof/Machine/Bus.lean ====
section
/-! DEFINITION. The rack bus (chapter 1): the station's own transmissions, index clash, the frames accepted in bus order and what each delivers, and the bus timers. -/

namespace Sys2Proof.Machine

/-! ## Outcomes told to the blocks that queued a frame -/

/-- The prompt slot's request could not be sent: a QUEUED slot is emptied, and its check's sample is INVALID with flag TIMEOUT (R139, R125). `event` is what a host request posts. -/
def promptNotSent (event : PromptSlot → State → State) (s : State) : State :=
  match s.prs.slot with
  | some p =>
    if p.answer.isNone then
      let s := closeSlot s
      let s := if p.holder.isNone then event p s else s
      handOutcome p.holder timeoutSample s
    else s
  | none => s

/-- The own claim state becomes NONE (R47: a claim that is discarded or abandoned). -/
def dropOwnClaim (s : State) : State := s.withDsu { s.dsu with ownClaim := .none }

/-- Each block with a frame in the slots `r` is told DISCARDED (R11). A host request that is still QUEUED ends without an event: R139 lists no DISCARDED report, and R138's WRONG_STATE answers the command alone (DESIGN CHOICE, log entry 10). -/
def tellDiscarded (r : Rbc) (s : State) : State :=
  let s := if r.slot .slotClaim = .empty then s else dropOwnClaim s
  if r.slot .promptReq = .empty then s else promptNotSent (fun _ s => s) s

/-- Each block is told that its class-0 or class-1 frame is ABANDONED (R47, R139); the kinds not named ask for no action. -/
def tellAbandoned (k : FrameKind) (s : State) : State :=
  match k with
  | .slotClaim => dropOwnClaim s
  | .slotRelease => dropOwnClaim s
  | .promptReq => promptNotSent (fun p s => post (.promptTimeout p.tag p.message true) s) s
  | _ => s

/-! ## Index clash (R11, R12) -/

/-- Steps 2 to 4 of R11: the transmitter is OFF_CLASH, all slots are emptied, and INDEX_CLASH is raised. -/
def goOffClash (sequential : Bool) (s : State) : State :=
  let old := s.rbc
  let s := s.withRbc { s.rbc with tx := .offClash, slots := Vector.replicate 10 .empty, beaconTimer := none,
                                  listenTimer := none, driven := none }
  raiseFault (.indexClash sequential) (tellDiscarded old s)

/-- Sequential index clash (R12): a frame of the own index that this station did not send, while LISTENING or ON. -/
def judgeClash (sender : StationIdx) (s : State) : State :=
  if ownIdx s = some sender ∧ (s.rbc.tx = .listening ∨ s.rbc.tx = .on) then goOffClash true s else s

/-! ## Acceptance (R3, R16, R17) -/

/-- The peer view at a frame of `sender`: PRESENT, its silence timer at 300 ms (R16). The own entry is not touched. -/
def seenPeer (sender : StationIdx) (s : State) : State :=
  if ownIdx s = some sender then s
  else
    let was := (s.rbc.peers[sender]).present
    let s := s.withRbc { s.rbc with
      peers := vupd s.rbc.peers sender (fun e => { e with present := true, silence := some Config.silenceTicks }) }
    if was then s else post (.peerJoined sender) s

/-- The frame of this kind and sender is the one this station has on the line. -/
def isOwnFrame (k : FrameKind) (sender : StationIdx) (s : State) : Bool :=
  decide (ownIdx s = some sender) && decide (s.rbc.onLine = some k)

/-- The own frame's slot is settled, and a class-2 frame leaves the courtesy flag set (R6, R7). -/
def settleOwn (k : FrameKind) (s : State) : State :=
  let r := s.rbc.settleAccepted k
  s.withRbc { r with courtesy := r.courtesy || decide (k.cls = 2), driven := none }

/-- The station drives the veto slot of the frame just heard dominant, or leaves it recessive (R2). -/
def driveVeto (dominant : Bool) (s : State) : State := s.withRbc { s.rbc with veto := dominant }

/-- An accepted frame (R3). `deliver` takes the slot the frame was sent from, where it is the station's own. No station drove its veto slot, this one included. A payload outside its codes is not delivered (R185). -/
def acceptFrame (k : FrameKind) (sender : StationIdx) (bytes : List Byte) (deliver : Option TxSlot → Payload → State → State)
    (s : State) : State :=
  if bytes.length ≠ k.length then s
  else
    let s := driveVeto false s
    let own := isOwnFrame k sender s
    let sent := if own then some (s.rbc.slot k) else none
    let s := if own then settleOwn k s else s
    if configured s then
      let s := seenPeer sender s
      let s := match Payload.ofBytes k bytes with
        | some p => deliver sent p s
        | none => s
      if own then s else judgeClash sender s
    else s

/-! ## Delivery -/

/-- A HALT enters its sender in the set, and empties the claim list and the panel's queue (R158, R45, R145). -/
def deliverHalt (sender : StationIdx) (s : State) : State :=
  let s := if ownIdx s = some sender then s else changeSources (Hfu.setSource sender true) s
  let held := decide (s.dsu.ownClaim ≠ .none)
  let s := s.withDsu { s.dsu with claims := [] }
  let s := if held then withdraw s else s
  changeQueue (fun _ => []) s

/-- A HALT_CLEAR removes its sender, and with FORCE every index that is ABSENT (R158). The own member is not removed by a frame (R156). -/
def deliverHaltClear (sender : StationIdx) (force : Bool) (s : State) : State :=
  let own := ownIdx s
  let peers := s.rbc.peers
  let keep (i : StationIdx) (b : Bool) : Bool :=
    if own = some i then b else b && !(decide (i = sender) || (force && !(peers[i]).present))
  changeSources (fun h => { h with sources := Vector.ofFn (fun i => keep i h.sources[i]) }) s

/-- A SLOT_CLAIM (R42, R46). The listed mark follows the claim that the station still makes. -/
def deliverClaim (sender : StationIdx) (sent : Option TxSlot) (t : Nat) (s : State) : State :=
  let present := match sent with
    | some (.inFlight _ _ none false) => decide (s.dsu.ownClaim = .waiting)
    | _ => false
  judgeGrants (s.withDsu { s.dsu with claims := claimAppend s.dsu.claims sender t, listed := s.dsu.listed || present })

/-- A SLOT_RELEASE, or an absence, removes the station's entry (R42, R43). -/
def dropClaim (i : StationIdx) (s : State) : State := s.withDsu { s.dsu with claims := claimRemove s.dsu.claims i }

/-- The answer fits the kind of the request (R140). -/
def answerFits : PromptKind → Answer → Bool
  | .action, .ok => true
  | .judge, .pass => true
  | .judge, .fail => true
  | _, _ => false

/-- A PROMPT_ANSWER at the requester (R140). -/
def takeAnswer (tag : Tag) (a : Answer) (s : State) : State :=
  match s.prs.slot with
  | some p =>
    if p.answer.isSome ∧ p.tag = tag ∧ answerFits p.kind a then
      let s := s.withPrs { s.prs with slot := none }
      let s := if p.holder.isNone then post (.promptAnswered tag p.message a) s else s
      handOutcome p.holder (answerSample (decide (a = .pass))) s
    else post (.promptLateAnswer tag a) s
  | none => post (.promptLateAnswer tag a) s

/-- A PROMPT_ANSWER at the requester and at the panel (R140, R145). -/
def deliverAnswer (station : StationIdx) (tag : Tag) (a : Answer) (s : State) : State :=
  let s := if ownIdx s = some station then takeAnswer tag a s else s
  changeQueue (queueDrop station (fun e => decide (e.tag = tag))) s

/-- A PROMPT_SHOW sets the shown mark of the request it names, and clears any other (R142). -/
def deliverShow (entry : Option (StationIdx × Tag)) (s : State) : State :=
  let own := ownIdx s
  let named (p : PromptSlot) : Bool :=
    match entry with
    | some (i, t) => decide (own = some i) && decide (t = p.tag) && p.answer.isSome
    | none => false
  s.withPrs { s.prs with slot := s.prs.slot.map (fun p => { p with shown := named p }) }

/-- A PROMPT_REQ with these fields is the request of a prompt slot. -/
def PromptSlot.asks (p : PromptSlot) (kind : PromptKind) (urgent : Bool) (message : Nat) (tag : Tag) : Bool :=
  decide (p.kind = kind) && (p.urgent == urgent) && decide (p.message = message) && decide (p.tag = tag)

/-- The station's own PROMPT_REQ has been accepted (R139); a frame that is not the request of the slot leaves it (DEDUCED, log entry 23). -/
def ownReqAccepted (kind : PromptKind) (urgent : Bool) (message : Nat) (tag : Tag) (s : State) : State :=
  match s.prs.slot with
  | some p =>
    if p.asks kind urgent message tag = true ∧ p.answer.isNone = true then
      if p.kind = .notice then settleWork (closeSlot s, [.slotFree])
      else
        s.withPrs { s.prs with slot := some { p with answer := some ((conf s).promptTime * Config.ticksPerS) } }
    else s
  | none => s

/-- A PROMPT_REQ at the panel, and at its requester (R144, R139). -/
def deliverReq (sender : StationIdx) (sent : Option TxSlot) (kind : PromptKind) (urgent : Bool) (message : Nat) (tag : Tag)
    (duration : Nat) (s : State) : State :=
  let s := changeQueue (queueReq
    { station := sender, kind := kind, urgent := urgent, message := message, tag := tag, duration := duration,
      notice := none }) s
  if sent.isSome then ownReqAccepted kind urgent message tag s else s

/-- A RESULT fills the sender's board entry (R153). -/
def deliverResult (sender : StationIdx) (serial : Nat) (v : StationVerdict) (c : Counts) (s : State) : State :=
  changeBoard sender
    (fun _ => some { serial := serial, verdict := v, counts := some c, fromResult := true, stale := false }) s

/-- What a beacon's slot state does to the claim list (R43). -/
def claimBeacon (sender : StationIdx) (b : Beacon) (sEff : Nat) (cs : List ClaimEntry) : List ClaimEntry :=
  let e : ClaimEntry := { station := sender, tInrush := b.tInrush, fromBeacon := true, expiry := none }
  match b.slotState with
  | .none => claimRemove cs sender
  | .waiting => if claimListed cs sender then cs else claimLearn cs e
  | .granted =>
    if claimListed cs sender then cs
    else
      let placed := claimLearn cs e
      if claimGranted placed sEff sender then
        claimLearn cs { e with expiry := some ((b.remaining + Config.expiryExtraMs) * Config.ticksPerMs) }
      else placed

/-- A BEACON at the DSU, the HFU, the PRS and S_EFF, and then the grants (R17, R43, R158, R145, R152, R153, R18, R44). -/
def deliverBeacon (sender : StationIdx) (b : Beacon) (s : State) : State :=
  let peer := decide (ownIdx s ≠ some sender)
  let s := if peer then
      s.withRbc { s.rbc with peers := vupd s.rbc.peers sender (fun e => { e with beacon := some b }) } else s
  let s := s.withDsu { s.dsu with claims := claimBeacon sender b s.rbc.sEff s.dsu.claims }
  let s := if peer then changeSources (Hfu.setSource sender b.haltInput) s else s
  let s := changeQueue (queueBeacon sender b) (judgePanel sender b s)
  let s := changeBoard sender (boardBeacon b) s
  judgeGrants (if peer then recomputeSEff s else s)

/-- A frame whose payload holds another kind's content is not delivered. -/
def deliverAs (f : Option TxSlot → Payload → Option (State → State)) (sent : Option TxSlot) (p : Payload) (s : State) :
    State := ((f sent p).getD id) s

/-! ## Commands: the line -/

/-- BUS_IDLE (R1, R19). -/
def execBusIdle (s : State) : Answered :=
  if s.rbc.bus = .busy then .next (s.withRbc { s.rbc with bus := .idle, idleCount := 0, bitTicks := 0, synced := true }) else .next s

/-- START_BIT_SEEN (R1, R4). -/
def execStartBitSeen (s : State) : Answered := .next (s.withRbc { s.rbc with bus := .busy })

/-- The payload as it is driven: a BEACON is assembled at its start bit (R15). -/
def assembled (p : Payload) (s : State) : Payload :=
  match p with
  | .beaconDue => .beacon (ownBeacon s)
  | q => q

/-- The ticks until the idle count stands at position `p`, in this round or the next (R4). -/
def Rbc.untilPosition (r : Rbc) (p : Nat) : Nat :=
  let bits := (p + Config.idleRound - r.idleCount % Config.idleRound) % Config.idleRound
  bits * Config.ticksPerBit - r.bitTicks

/-- The station starts the frame of kind `k` from the slot's payload: it is IN_FLIGHT, its bits are on the line, and a class-2 frame pays the courtesy owed (R6, R9). -/
def startFrame (i : StationIdx) (k : FrameKind) (p : Payload) (attempts : Nat) (s : State) : State :=
  let q := assembled p s
  let r := s.rbc.setSlot k (.inFlight q attempts none false)
  s.withRbc { r with bus := .busy, driven := some (frameLineBits (driveFrame i.val q)),
                     courtesy := r.courtesy && decide (k.cls ≠ 2) }

/-- TRANSMIT_START (R4, R5, R6, R9): the wait to the deferral position of the chosen frame goes by, and the frame starts. A frame that was queued while the listen timer ran contends in the idle period that is already running when the timer expires (DESIGN CHOICE, log entry 10). -/
def execTransmitStart (s : State) : Answered :=
  match ownIdx s, s.rbc.choice with
  | some i, some k =>
    match s.rbc.slot k with
    | .pending p a =>
      if s.rbc.tx = .on ∧ s.rbc.bus = .idle then
        .next (startFrame i k p a (elapse (s.rbc.untilPosition (s.rbc.position i k)) s))
      else .next s
    | _ => .next s
  | _, _ => .next s

/-- SIMULTANEOUS_INDEX_CLASH (R11). -/
def execSimultaneousIndexClash (s : State) : Answered :=
  match s.rbc.onLine with
  | some _ => .next (goOffClash false s)
  | none => .next s

/-- The station's own veto of the frame it read: it heard the frame from its start bit and finds it faulty, or it is the sender and read a dominant bit where it drove a recessive one (R2, R19). -/
def ownVeto (f : RackFrame) (s : State) : Bool :=
  (s.rbc.synced && frameFaulty f) || (s.rbc.onLine.isSome && match s.rbc.driven with | some bits => frameMisread bits f | none => false)

/-- FRAME_VETOED (R2, R3, R9, R10): the veto this station drove on the frame, and the settling of its own frame. A frame of another station is discarded. -/
def execFrameVetoed (s : State) (frame : RackFrame := .halt0) : Answered :=
  let s := driveVeto (ownVeto frame s) s
  match s.rbc.onLine with
  | some k =>
    let (r, abandoned) := s.rbc.settleVetoed k
    let s := s.withRbc { r with courtesy := r.courtesy || decide (k.cls = 2), driven := none }
    if abandoned then
      if k.cls = 2 then .next (post (.rbTxAbandoned k) s) else .next (raiseFault (.rbAbandon k) (tellAbandoned k s))
    else .next s
  | none => .next s

/-! ## Commands: accepted frames -/

/-- HALT_ACCEPTED. -/
def execHaltAccepted (sender : StationIdx) (s : State) : Answered :=
  .next (acceptFrame .halt sender [] (fun _ _ s => deliverHalt sender s) s)

/-- HALT_CLEAR_ACCEPTED. -/
def execHaltClearAccepted (sender : StationIdx) (payload : List Byte) (s : State) : Answered :=
  .next (acceptFrame .haltClear sender payload (deliverAs (fun _ p =>
    match p with | .haltClear f => some (deliverHaltClear sender f) | _ => none)) s)

/-- SLOT_CLAIM_ACCEPTED. -/
def execSlotClaimAccepted (sender : StationIdx) (payload : List Byte) (s : State) : Answered :=
  .next (acceptFrame .slotClaim sender payload (deliverAs (fun sent p =>
    match p with | .slotClaim t => some (deliverClaim sender sent t) | _ => none)) s)

/-- SLOT_RELEASE_ACCEPTED. -/
def execSlotReleaseAccepted (sender : StationIdx) (s : State) : Answered :=
  .next (acceptFrame .slotRelease sender [] (fun _ _ s => judgeGrants (dropClaim sender s)) s)

/-- PROMPT_ANSWER_ACCEPTED. -/
def execPromptAnswerAccepted (sender : StationIdx) (payload : List Byte) (s : State) : Answered :=
  .next (acceptFrame .promptAnswer sender payload (deliverAs (fun _ p =>
    match p with | .promptAnswer i t a => some (deliverAnswer i t a) | _ => none)) s)

/-- PROMPT_SHOW_ACCEPTED. -/
def execPromptShowAccepted (sender : StationIdx) (payload : List Byte) (s : State) : Answered :=
  .next (acceptFrame .promptShow sender payload (deliverAs (fun _ p =>
    match p with | .promptShow e => some (deliverShow e) | _ => none)) s)

/-- PROMPT_CANCEL_ACCEPTED. -/
def execPromptCancelAccepted (sender : StationIdx) (payload : List Byte) (s : State) : Answered :=
  .next (acceptFrame .promptCancel sender payload (deliverAs (fun _ p =>
    match p with
    | .promptCancel t => some (changeQueue (queueDrop sender (fun e => decide (e.tag = t))))
    | _ => none)) s)

/-- PROMPT_REQ_ACCEPTED. -/
def execPromptReqAccepted (sender : StationIdx) (payload : List Byte) (s : State) : Answered :=
  .next (acceptFrame .promptReq sender payload (deliverAs (fun sent p =>
    match p with | .promptReq k u m t d => some (deliverReq sender sent k u m t d) | _ => none)) s)

/-- RESULT_ACCEPTED. -/
def execResultAccepted (sender : StationIdx) (payload : List Byte) (s : State) : Answered :=
  .next (acceptFrame .result sender payload (deliverAs (fun _ p =>
    match p with | .result n v c => some (deliverResult sender n v c) | _ => none)) s)

/-- BEACON_ACCEPTED. -/
def execBeaconAccepted (sender : StationIdx) (payload : List Byte) (s : State) : Answered :=
  .next (acceptFrame .beacon sender payload (deliverAs (fun _ p =>
    match p with | .beacon b => some (deliverBeacon sender b) | _ => none)) s)

/-- OUT_OF_CODE_FRAME_ACCEPTED (R185): presence and the silence timer alone, and the clash of R12. -/
def execOutOfCodeFrameAccepted (sender : StationIdx) (s : State) : Answered :=
  let s := driveVeto false s
  if configured s then .next (judgeClash sender (seenPeer sender s)) else .next s

/-! ## Commands: timers -/

/-- LISTEN_TIMER_EXPIRY (R13, R14, R151). -/
def execListenTimerExpiry (s : State) : Answered :=
  .next (onExpiry s.rbc.listenTimer (fun s =>
    let s := s.withRbc { s.rbc with tx := .on, listenTimer := none, beaconTimer := some Config.beaconTicks }
    rebuildQueue (request .beaconDue s)) s)

/-- BEACON_TIMER_EXPIRY (R14). -/
def execBeaconTimerExpiry (s : State) : Answered :=
  .next (onExpiry s.rbc.beaconTimer (fun s =>
    request .beaconDue (s.withRbc { s.rbc with beaconTimer := some Config.beaconTicks })) s)

/-- SILENCE_TIMER_EXPIRY (R16, R17): the absence reaches the DSU, the PRS and S_EFF. -/
def execSilenceTimerExpiry (peer : StationIdx) (s : State) : Answered :=
  .next (onExpiry (s.rbc.peers[peer]).silence (fun s =>
    let s := post (.peerLost peer) (s.withRbc { s.rbc with peers := vset s.rbc.peers peer PeerEntry.absent })
    let s := dropClaim peer s
    let s := changeQueue (queueDrop peer (fun _ => true)) s
    let s := changeBoard peer (fun x => x.map (fun e => { e with stale := true })) s
    judgeGrants (recomputeSEff s)) s)

end Sys2Proof.Machine
end

