-- ==== Sys2Proof/Machine/Link.lean ====
section
/-! DEFINITION. The command link (chapter 10): the link status byte, the tests of R173, the response buffer, and the writing and reading of table records one at a time. -/

namespace Sys2Proof.Machine

/-- The link status byte (R186). -/
def linkStatus (c : Cml) : Byte := BitVec.ofNat 8 (c.events.length % 64 + if c.unread then 128 else 0)

/-- What an owner answers: a status and the response data. -/
structure Reply where
  status : Status
  data   : List Byte
  deriving DecidableEq, Repr

/-- OK with response data. -/
def okWith (data : List Byte) : Reply := { status := .ok, data := data }

/-- OK without response data. -/
def okReply : Reply := okWith []

/-- A refusal, which carries no data. -/
def refuse (st : Status) : Reply := { status := st, data := [] }

/-- OK, or OK_ADJUSTED where a value was adjusted. -/
def okIf (adjusted : Bool) (data : List Byte) : Reply := { status := if adjusted then .okAdjusted else .ok, data := data }

/-- Place a response in the buffer: it takes the next command sequence value and sets the unread mark (R173, R174). -/
def placeResponse (code : Byte) (r : Reply) (s : State) : State :=
  let seq := (s.cml.cmdSeq + 1) % 256
  s.withCml { s.cml with response := some { status := r.status, code := code, seq := seq, data := r.data },
                         unread := true, cmdSeq := seq }

/-- Test 3 of R173. -/
inductive ConfigTest where
  /-- Passed before and after CONFIGURE. -/
  | free
  /-- Refused with NOT_CONFIGURED before CONFIGURE. -/
  | needed
  /-- CONFIGURE: refused with ALREADY_CONFIGURED after one. -/
  | once
  deriving DecidableEq, Repr

/-- Test 4 of R173: the modes in which the link passes a command (10.3). -/
inductive Gate where
  | every
  | notLockout
  | normalHalted
  deriving DecidableEq, Repr

/-- What test 3 refuses with, if it does. -/
def ConfigTest.refusal (t : ConfigTest) (configured : Bool) : Option Status :=
  match t, configured with
  | .needed, false => some .notConfigured
  | .once, true => some .alreadyConfigured
  | _, _ => none

/-- The mode passes the gate. -/
def Gate.passes : Gate → Mode → Bool
  | .every, _ => true
  | .notLockout, m => decide (m ≠ .lockout)
  | .normalHalted, m => decide (m = .normal) || decide (m = .halted)

/-- Tests 2 to 4 of R173: the refusal of the first that applies. -/
def linkRefusal (allowed : Nat → Bool) (t : ConfigTest) (g : Gate) (p : Params) (s : State) : Option Status :=
  if p.bytes.length ≠ p.len ∨ allowed p.len = false then some .lengthError
  else match t.refusal (configured s) with
    | some st => some st
    | none => if g.passes s.hfu.mode then none else some .wrongState

/-- While a command write clocks in, MISO shifts out the link status byte (R172). R172 and R186 do not say whether it is shifted out once or again under each later byte: it is shifted out once, with the kind byte (DESIGN CHOICE, log entry 8). -/
def shiftStatus (s : State) : State := s.withCml { s.cml with miso := [linkStatus s.cml] }

/-- A command write with a known code (R173): the tests in turn, then the owner; the response is placed in every case. -/
def linkCommand (code : Nat) (allowed : Nat → Bool) (t : ConfigTest) (g : Gate) (p : Params)
    (owner : List Byte → State → State × Reply) (s : State) : State :=
  let s := shiftStatus s
  match linkRefusal allowed t g p s with
  | some st => placeResponse (BitVec.ofNat 8 code) (refuse st) s
  | none =>
    let (s, r) := owner p.bytes s
    placeResponse (BitVec.ofNat 8 code) r s

/-- A command that allows one length. -/
def exactly (n : Nat) (len : Nat) : Bool := decide (len = n)

/-- An owner's refusal changes no state. -/
def refused (st : Status) (s : State) : State × Reply := (s, refuse st)

/-! ## Record writes (R176, R177) -/

/-- What an owner does with one offered record. -/
inductive Stored where
  | plain
  | adjusted
  | refused (st : Status)
  deriving DecidableEq, Repr

/-- Set the table cursor (R177). -/
def setCursor (t : Table) (i : Nat) (s : State) : State := s.withCml { s.cml with cursor := some (t, i) }

/-- The records of a write, cut to their size. -/
def recordsOf (size : Nat) (bs : List Byte) : List (List Byte) :=
  (List.range (bs.length / size)).map (fun k => (bs.drop (k * size)).take size)

/-- Offer the records to the owner one at a time in ascending index (R176). `n` records are stored so far, `adj` holds the indices of the adjusted ones. -/
def offerRecords (t : Table) (store : Nat → List Byte → State → State × Stored) (first : Nat) :
    List (List Byte) → Nat → List Nat → State → State × Reply
  | [], n, adj, s =>
    let s := setCursor t (first + n) s
    if adj = [] then (s, okWith (leBytes 1 n))
    else (s, okIf true (leBytes 1 n ++ leBytes 1 adj.length ++ padTo 8 (adj.flatMap (leBytes 1))))
  | r :: rs, n, adj, s =>
    let i := first + n
    let (s, x) := if t.capacity ≤ i then (s, Stored.refused .range) else store i r s
    match x with
    | .plain => offerRecords t store first rs (n + 1) adj s
    | .adjusted => offerRecords t store first rs (n + 1) (adj ++ [i]) s
    | .refused st =>
      (setCursor t i s, { status := .partialWrite, data := leBytes 1 n ++ leBytes 1 i ++ leBytes 1 st.code })

/-- The lengths WRITE_RECORDS allows (R173): the header and 1 to 8 whole records of the named table, or any that holds the header where the table cannot be written. A write of a table that cannot be written with 251 to 255 parameters is refused with LENGTH_ERROR: test 2 of R173 passes any length that holds the header, while 10.1 and R186 allow 0 to 250 bytes (DESIGN CHOICE, log entry 17). -/
def writeAllowed (bs : List Byte) (len : Nat) : Bool :=
  match (Table.ofCode (field bs 0 1)).bind Table.recordSize with
  | some size => decide (2 < len) && decide ((len - 2) % size = 0) && decide ((len - 2) / size ≤ 8) && decide (len ≤ 250)
  | none => decide (2 ≤ len) && decide (len ≤ 250)

/-! ## Record reads (R175, R177) -/

/-- The records of a read from the first index, each preceded by its length in two bytes. `fin` is the end of the table. -/
def readFrom (t : Table) (rec : Nat → List Byte) (fin first count : Nat) (s : State) : State × Reply :=
  let n := min count (fin - first)
  let bytes := ((List.range n).map (fun k => let r := rec (first + k); leBytes 2 r.length ++ r)).flatten
  let s := setCursor t (first + n) s
  if n = count then (s, okWith bytes) else (s, { status := .truncated, data := bytes ++ leBytes 1 n })

end Sys2Proof.Machine
end

