-- ==== Sys2Proof/Machine/Stimulus.lean ====
section
/-! DEFINITION. The stimulus unit (chapter 4): applications of updates, the waveforms on the pins, gates, staging, frame boundaries and ramps. -/

namespace Sys2Proof.Machine

/-! ## Pins and gates (R60, R64) -/

/-- The level the generator calls for. -/
def Drive.level : Drive → Bool
  | .off => false
  | .wave _ _ _ level => level
  | .shot _ => true

/-- The level on a channel's pin; a channel held by its gate is at the idle level. -/
def Channel.pin (c : Channel) : Bool := !c.gated && c.drive.level

/-- Channels from S1 on are held or resumed as the pin before them is driven; `gate` is that pin (R64). -/
def regateFrom (gate : Bool) : List Channel → List Channel
  | [] => []
  | c :: cs =>
    let c := { c with gated := c.link && !gate }
    c :: regateFrom c.pin cs

/-- The gates after a change of a pin or a link. S0 has no gate. -/
def regate (cs : Vector Channel 8) : Vector Channel 8 :=
  let l := (cs[0]).pin :: (regateFrom (cs[0]).pin (cs.toList.drop 1)).map (·.gated)
  Vector.ofFn (fun i => if i.val = 0 then cs[i] else { cs[i] with gated := l.getD i.val false })

/-- A waveform begins with the high part of a period of these figures (R60). -/
def Drive.begin (f : Nat × Nat) : Drive := .wave f.1 f.2 f.1 (decide (0 < f.2))

/-! ## Applications (R69) -/

/-- Step 1 of R69: the fields present replace the stored parameters. -/
def Channel.store (c : Channel) (u : ChannelUpdate) : Channel :=
  { c with mode := u.mode.getD c.mode, freq := u.freq.getD c.freq, duty := u.duty.getD c.duty,
           count := u.count.getD c.count, width := u.width.getD c.width, value := u.value.getD c.value,
           slew := u.slew.getD c.slew, link := u.link.getD c.link }

/-- Step 2 of R69: the working point (R63). `was` is the mode before the application. -/
def Channel.setWorking (c : Channel) (was : ChannelMode) : Channel :=
  match c.mode with
  | .freq =>
    let w := if was = .freq then c.workFreq else 0
    { c with workFreq := if c.slew = 0 then c.freq else w }
  | .value =>
    let w := if was = .value then c.workValue else 0
    { c with workValue := if c.slew = 0 then c.value else w }
  | _ => c

/-- The channel's modes FREQ and PWM, whose waveforms run on through a change between them (R60). -/
def ChannelMode.steady : ChannelMode → Bool
  | .freq => true
  | .pwm => true
  | _ => false

/-- The generator of a FREQ or PWM channel after its realization (R60): a running waveform keeps the period in progress, any other starts, and no period stops it. -/
def steadyDrive (was : ChannelMode) (d : Drive) (figures : Option (Nat × Nat)) : Drive :=
  match figures, d with
  | none, _ => .off
  | some _, .wave p h l v => if was.steady then .wave p h l v else Drive.begin (figures.getD (0, 0))
  | some f, _ => Drive.begin f

/-- The application starts a burst (R61). -/
def startsBurst (c : Channel) (u : ChannelUpdate) : Bool :=
  decide (c.mode = .pulse) && (decide (u.mode = some .pulse) || u.count.isSome)

/-- The application starts a one-shot pulse (R62). -/
def startsShot (c : Channel) (u : ChannelUpdate) : Bool :=
  decide (c.mode = .oneshot) && (decide (u.mode = some .oneshot) || u.width.isSome)

/-- Step 4 of R69: the generator and the burst state of a realized channel (R60 to R62). A RUNNING burst whose channel leaves PULSE is ENDED, its count lost (DESIGN CHOICE, log entry 18). -/
def Channel.follow (c : Channel) (was : ChannelMode) (u : ChannelUpdate) : Channel :=
  match c.mode with
  | .idle => { c with drive := .off, burst := none }
  | .value => { c with drive := .off, burst := none }
  | .freq => { c with drive := steadyDrive was c.drive c.figures, burst := none }
  | .pwm => { c with drive := steadyDrive was c.drive c.figures, burst := none }
  | .pulse =>
    if startsBurst c u then
      match c.figures with
      | some f => { c with drive := Drive.begin f, burst := some c.count }
      | none => { c with drive := .off, burst := none }
    else
      match c.burst, c.figures with
      | some _, some f => if c.drive = .off then { c with drive := Drive.begin f } else c
      | some _, none => { c with drive := .off }
      | none, _ => { c with drive := .off }
  | .oneshot =>
    let c := { c with burst := none }
    if startsShot c u then { c with drive := .shot c.width } else c

/-- A channel after the four steps of R69, its gate apart. -/
def Channel.apply (c : Channel) (u : ChannelUpdate) : Channel :=
  ((((c.store u).setWorking c.mode).realize).follow c.mode u)

/-- The application is an apply event (R69). A burst at a requested frequency of 0 ends at once and is not started (R61). -/
def isApplyEvent (old new : Channel) (u : ChannelUpdate) : Bool :=
  decide (old.mode ≠ new.mode) || decide (old.realFreq ≠ new.realFreq) || decide (old.realDuty ≠ new.realDuty) ||
    decide (old.realValue ≠ new.realValue) || decide (old.link ≠ new.link) ||
    (startsBurst new u && new.figures.isSome) || startsShot new u

/-- The stamp of an apply event now (R72). -/
def applyStamp (s : State) : ApplyStamp := { frame := s.stu.frame, tick := s.rcu.timebase }

/-- Apply a channel update (R69); an apply event is stamped and handed to the CKE (R72). -/
def applyChannel (i : ChannelIdx) (u : ChannelUpdate) (s : State) : State :=
  let old := s.stu.channels[i]
  let new := old.apply u
  let event := isApplyEvent old new u
  let new := if event then { new with stamp := some (applyStamp s) } else new
  let s := s.withStu { s.stu with channels := regate (vset s.stu.channels i new) }
  if event then applyEvent s else s

/-- The outputs after a discrete update (R65). -/
def maskedSet (old : BitVec 16) (u : DiscreteUpdate) : BitVec 16 := (old &&& ~~~u.mask) ||| (u.values &&& u.mask)

/-- Apply a discrete update (R65); it is an apply event where an output changes. -/
def applyDiscretes (u : DiscreteUpdate) (s : State) : State :=
  let new := maskedSet s.stu.discretes u
  if new = s.stu.discretes then s
  else applyEvent (s.withStu { s.stu with discretes := new, discreteStamp := some (applyStamp s) })

/-! ## Staging (R68) -/

/-- A newer update merged into a slot's. -/
def ChannelUpdate.merge (old new : ChannelUpdate) : ChannelUpdate :=
  { mode := new.mode.or old.mode, freq := new.freq.or old.freq, duty := new.duty.or old.duty,
    count := new.count.or old.count, width := new.width.or old.width, value := new.value.or old.value,
    slew := new.slew.or old.slew, link := new.link.or old.link }

/-- A slot after a channel update is written into it. -/
def mergeInto (slot : Option ChannelUpdate) (u : ChannelUpdate) : Option ChannelUpdate :=
  match slot with
  | some old => some (old.merge u)
  | none => some u

/-- A newer discrete update merged into a slot's: the union of the masks, the newer value where both set a bit. -/
def DiscreteUpdate.merge (old new : DiscreteUpdate) : DiscreteUpdate :=
  { mask := old.mask ||| new.mask, values := (old.values &&& ~~~new.mask) ||| (new.values &&& new.mask) }

/-- A slot after a discrete update is written into it. -/
def mergeDiscretes (slot : Option DiscreteUpdate) (u : DiscreteUpdate) : Option DiscreteUpdate :=
  match slot with
  | some old => some (old.merge u)
  | none => some u

/-- A taken channel update is placed by its timing (R68). -/
def placeChannel (i : ChannelIdx) (t : Timing) (u : ChannelUpdate) (s : State) : State :=
  match t with
  | .now => applyChannel i u s
  | .next => s.withStu { s.stu with next := vupd s.stu.next i (mergeInto · u) }
  | .second => s.withStu { s.stu with second := vupd s.stu.second i (mergeInto · u) }

/-- A taken discrete update is placed by its timing (R68). -/
def placeDiscretes (t : Timing) (u : DiscreteUpdate) (s : State) : State :=
  match t with
  | .now => applyDiscretes u s
  | .next => s.withStu { s.stu with groupNext := mergeDiscretes s.stu.groupNext u }
  | .second => s.withStu { s.stu with groupSecond := mergeDiscretes s.stu.groupSecond u }

/-! ## Frame boundaries (R70) and ramps (R63) -/

/-- One ramp step of a channel; a channel with no ramp in progress stays. -/
def Channel.ramp (c : Channel) : Channel :=
  match c.mode with
  | .freq =>
    if c.workFreq = c.freq then c
    else
      let w := if c.workFreq < c.freq then min c.freq (c.workFreq + c.slew) else max c.freq (c.workFreq - c.slew)
      ({ c with workFreq := w }.realize).follow .freq ChannelUpdate.none
  | .value =>
    if c.workValue = c.value then c
    else
      let w := if c.workValue < c.value then min c.value (c.workValue + c.slew) else max c.value (c.workValue - c.slew)
      ({ c with workValue := w }.realize).follow .value ChannelUpdate.none
  | _ => c

/-- Step 1 of R70: every occupied NEXT slot is applied and emptied, the channels in ascending order and then the group. The manual names no order among the occupied slots of one boundary, and it can decide which realized value a TRACK window takes that opens between two of them (DESIGN CHOICE, log entry 18). -/
def applyNext (s : State) : State :=
  let s := (List.finRange 8).foldl
    (fun s i => match s.stu.next[i] with
      | some u => applyChannel i u (s.withStu { s.stu with next := vset s.stu.next i none })
      | none => s) s
  match s.stu.groupNext with
  | some u => applyDiscretes u (s.withStu { s.stu with groupNext := none })
  | none => s

/-- Step 2 of R70: what SECOND slots hold moves into the NEXT slots. -/
def moveSecond (s : State) : State :=
  s.withStu { s.stu with
    next := Vector.ofFn (fun i => (s.stu.second[i]).or s.stu.next[i]), second := Vector.replicate 8 none,
    groupNext := s.stu.groupSecond.or s.stu.groupNext, groupSecond := none }

/-- Step 3 of R70. -/
def rampAll (s : State) : State := s.withStu { s.stu with channels := regate (vmap Channel.ramp s.stu.channels) }

/-- A frame boundary (R70, R73). -/
def frameBoundary (s : State) : State :=
  let s := s.withStu { s.stu with frame := s.stu.frame + 1, sinceBoundary := 0,
                                  frameTimer := some ((conf s).frameMs * Config.ticksPerMs) }
  let s := handFrame s
  let s := if s.stu.hold then s else moveSecond (applyNext s)
  rampAll s

/-- FRAME_BOUNDARY. -/
def execFrameBoundary (s : State) : Answered := .next (onExpiry s.stu.frameTimer frameBoundary s)

/-! ## Waveform ends (R60 to R62) -/

/-- A timed output's channel. -/
def timedChannel (i : TimedIdx) : ChannelIdx := i.castLE (by decide)

/-- Change one channel's generator and judge the gates again. -/
def changeDrive (i : TimedIdx) (f : Channel → Channel) (s : State) : State :=
  s.withStu { s.stu with channels := regate (vupd s.stu.channels (timedChannel i) f) }

/-- The end of a period (R60, R61): the standing figures govern the next, and a burst's remaining count falls. -/
def Channel.endPeriod (c : Channel) : Channel :=
  let again : Channel :=
    match c.figures with
    | some f => { c with drive := Drive.begin f }
    | none => { c with drive := .off }
  if c.mode = .pulse then
    match c.burst with
    | some n => if n ≤ 1 then { c with burst := none, drive := .off } else { again with burst := some (n - 1) }
    | none => { c with drive := .off }
  else again

/-- The ticks left to a waveform's period end, while it runs. -/
def Channel.periodLeft (c : Channel) : Timer :=
  match c.gated, c.drive with
  | false, .wave _ _ left _ => some left
  | _, _ => none

/-- The ticks left to the end of a high part, while it runs. -/
def Channel.highLeft (c : Channel) : Timer :=
  match c.gated, c.drive with
  | false, .wave p h left true => if h < p then some (left - (p - h)) else none
  | _, _ => none

/-- The ticks left to a one-shot pulse, while it runs. -/
def Channel.shotLeft (c : Channel) : Timer :=
  match c.gated, c.drive with
  | false, .shot left => some left
  | _, _ => none

/-- The output goes low for the rest of the period. -/
def Channel.endHigh (c : Channel) : Channel :=
  match c.drive with
  | .wave p h left _ => { c with drive := .wave p h left false }
  | _ => c

/-- PERIOD_END. -/
def execPeriodEnd (i : TimedIdx) (s : State) : Answered :=
  .next (onExpiry (s.stu.channels[timedChannel i]).periodLeft (changeDrive i Channel.endPeriod) s)

/-- HIGH_PART_END. -/
def execHighPartEnd (i : TimedIdx) (s : State) : Answered :=
  .next (onExpiry (s.stu.channels[timedChannel i]).highLeft (changeDrive i Channel.endHigh) s)

/-- ONESHOT_END. -/
def execOneshotEnd (i : TimedIdx) (s : State) : Answered :=
  .next (onExpiry (s.stu.channels[timedChannel i]).shotLeft (changeDrive i (fun c => { c with drive := .off })) s)

/-! ## Link commands -/

/-- SET_CHANNEL at the STU (R66, R68). An OK_ADJUSTED answer has no data, as an OK answer has none (DESIGN CHOICE, log entry 7). -/
def ownSetChannel (bs : List Byte) (s : State) : State × Reply :=
  if s.hfu.mode ≠ .normal then refused .wrongState s
  else match setChannelOf bs with
    | none => refused .range s
    | some (i, t, u, adjusted) =>
      if u = ChannelUpdate.none then (s, okReply) else (placeChannel i t u s, okIf adjusted [])

/-- SET_CHANNEL. -/
def execSetChannel (p : Params) (s : State) : Answered :=
  .next (linkCommand 11 (exactly 25) .needed .normalHalted p ownSetChannel s)

/-- SET_DISCRETES at the STU (R67, R68). -/
def ownSetDiscretes (bs : List Byte) (s : State) : State × Reply :=
  if s.hfu.mode ≠ .normal then refused .wrongState s
  else match setDiscretesOf bs with
    | none => refused .range s
    | some (t, u) => if u.mask = 0 then (s, okReply) else (placeDiscretes t u s, okReply)

/-- SET_DISCRETES. -/
def execSetDiscretes (p : Params) (s : State) : Answered :=
  .next (linkCommand 12 (exactly 5) .needed .normalHalted p ownSetDiscretes s)

/-- Set or clear HOLD (R71). -/
def ownSetHold (hold : Bool) (_ : List Byte) (s : State) : State × Reply :=
  if s.hfu.mode ≠ .normal then refused .wrongState s else (s.withStu { s.stu with hold := hold }, okReply)

/-- HOLD_STAGING. -/
def execHoldStaging (p : Params) (s : State) : Answered :=
  .next (linkCommand 13 (exactly 0) .needed .normalHalted p (ownSetHold true) s)

/-- RELEASE_STAGING. -/
def execReleaseStaging (p : Params) (s : State) : Answered :=
  .next (linkCommand 14 (exactly 0) .needed .normalHalted p (ownSetHold false) s)

end Sys2Proof.Machine
end

