-- ==== Sys2Proof/Machine/Network.lean ====
section
/-! DEFINITION. The vehicle network port (chapter 5): instances, attempts and their counting, reception, and the writes of transmit slots and receive filters. -/

namespace Sys2Proof.Machine

/-- The port sends and receives (R78). -/
def PortState.live : PortState → Bool
  | .active => true
  | .passive => true
  | _ => false

/-- Replace a transmit slot. -/
def setVnSlot (i : TxSlotIdx) (v : VnSlot) (s : State) : State := s.withVnp { s.vnp with slots := vset s.vnp.slots i v }

/-! ## Instances (R86 to R89) -/

/-- A payload with an encoded value in the slot's bound field, where it has both. -/
def VnSlot.place (v : VnSlot) (x : BitVec 64) (e : Option Int) : BitVec 64 :=
  match v.bound, e with
  | some f, some e => placeBound x f e
  | _, _ => x

/-- The bound field encoded now from a realized value (R86); a slot without one has nothing to encode. -/
def VnSlot.encodeNow (v : VnSlot) (r : Int) : VnSlot × Option Int :=
  match v.bound with
  | some f =>
    let (e, c) := encodeBound f r
    ({ v with lastEnc := e, clamped := c }, some e)
  | none => (v, none)

/-- A new instance is formed with this encoded value, and the next count advances (R88). -/
def VnSlot.form (v : VnSlot) (e : Option Int) : VnSlot :=
  let x := v.place v.payload e
  match v.counter with
  | some (cs, cw) =>
    { v with inst := .pending (placeField x false cs cw v.nextCount), nextCount := (v.nextCount + 1) % 2 ^ cw }
  | none => { v with inst := .pending x }

/-- An instance falls due, with its source's realized value (R88, R89). -/
def VnSlot.fallDue (v : VnSlot) (r : Int) : VnSlot :=
  let (v, e) := v.encodeNow r
  match v.inst with
  | .none => v.form e
  | .pending x => { v with inst := .pending (v.place x e) }
  | .onLine _ _ => { v with held := some e }

/-- The realized value of the slot's source channel (R86). -/
def sourceValue (s : State) (v : VnSlot) : Int :=
  match v.bound with
  | some f => (s.stu.channels[f.source]).realValue
  | none => 0

/-- An instance of slot `i` falls due. -/
def fallDue (i : TxSlotIdx) (s : State) : State :=
  let v := s.vnp.slots[i]
  setVnSlot i (v.fallDue (sourceValue s v)) s

/-- VN_DUE_TIME (R85): the due time moves on by one period. -/
def execVnDueTime (slot : TxSlotIdx) (s : State) : Answered :=
  .next (onExpiry (s.vnp.slots[slot]).due (fun s =>
    let v := s.vnp.slots[slot]
    fallDue slot (setVnSlot slot { v with due := some (v.period * Config.ticksPerMs) } s)) s)

/-- VN_SEND_ONCE at the VNP (R91). -/
def ownSendOnce (bs : List Byte) (s : State) : State × Reply :=
  let n := field bs 0 1
  if h : n < 24 then
    if (s.vnp.slots[n]).enable && s.vnp.port.live then (fallDue ⟨n, h⟩ s, okReply) else refused .wrongState s
  else refused .range s

/-- VN_SEND_ONCE. -/
def execVnSendOnce (p : Params) (s : State) : Answered :=
  .next (linkCommand 15 (exactly 1) .needed .normalHalted p ownSendOnce s)

/-! ## Attempts (R79, R90) -/

/-- The place of a slot in the winning order (5.1): first 11 identifier bits, STANDARD before EXTENDED, full identifier. -/
def VnSlot.order (v : VnSlot) : Nat :=
  let top := if v.extended then v.identifier / 2 ^ 18 else v.identifier
  (2 * top + if v.extended then 1 else 0) * 2 ^ 29 + v.identifier

/-- The slot whose PENDING instance orders first; of equal ones the lowest index (R90). -/
def vnChoice (v : Vnp) : Option TxSlotIdx :=
  (List.finRange 24).foldl
    (fun best i =>
      match (v.slots[i]).inst, best with
      | .pending _, none => some i
      | .pending _, some j => if (v.slots[i]).order < (v.slots[j]).order then some i else some j
      | _, b => b)
    none

/-- The slot with an attempt on the line. -/
def vnOnLine (v : Vnp) : Option TxSlotIdx :=
  (List.finRange 24).find? (fun i => match (v.slots[i]).inst with | .onLine _ _ => true | _ => false)

/-- VN_LINE_FREE (R90): the chosen instance becomes ON_LINE at its start bit. -/
def execVnLineFree (s : State) : Answered :=
  match s.vnp.port.live, vnOnLine s.vnp, vnChoice s.vnp with
  | true, none, some i =>
    let v := s.vnp.slots[i]
    match v.inst with
    | .pending x =>
      let s := setVnSlot i { v with inst := .onLine x false } s
      .next (s.withVnp { s.vnp with
        driven := some (vnFrameBits v.extended v.identifier (payloadBytes x v.length)) })
    | _ => .next s
  | _, _, _ => .next s

/-- A held refresh becomes a new instance, and without one the slot has none (R89, R84). -/
def VnSlot.afterLine (v : VnSlot) : VnSlot :=
  match v.held with
  | some e => { v.form e with held := none }
  | none => { v with inst := .none }

/-- The slot at the end of its attempt (R79, R84, R89). -/
def VnSlot.endAttempt (v : VnSlot) (success : Bool) : VnSlot :=
  match v.inst with
  | .onLine x detached =>
    if detached then v.afterLine
    else if success then { v.afterLine with sent := (v.sent + 1) % 65536 }
    else { v with inst := .pending (v.place x (v.held.getD none)), held := none }
  | _ => v

/-- TEC at the end of an attempt (R79). -/
def tecAfter (outcome : AttemptEnd) (tec : Nat) : Nat :=
  match outcome with
  | .success => tec - 1
  | .arbitrationLoss => tec
  | .transmitError => tec + 8
  | .unacknowledged => if tec < 128 then tec + 8 else tec

/-- The port state that TEC and REC call for (R81). -/
def portFor (tec recv : Nat) : PortState :=
  if 256 ≤ tec then .busOff else if 128 ≤ tec ∨ 128 ≤ recv then .passive else .active

/-- The port judges its state (R81). At BUS_OFF TEC is held at 256, the scheduler stops, and VN_BUS_OFF is raised. -/
def judgePort (s : State) : State :=
  let old := s.vnp.port
  let new := portFor s.vnp.tec s.vnp.recv
  if old.live = false ∨ new = old then s
  else if new = .busOff then
    let s := s.withVnp { s.vnp with port := .busOff, tec := 256, scheduler := false,
                                    slots := vmap VnSlot.stop s.vnp.slots, driven := none }
    raiseFault (.vnBusOff 256 s.vnp.recv) (post (.vnStateChanged old .busOff 256 s.vnp.recv) s)
  else post (.vnStateChanged old new s.vnp.tec s.vnp.recv) (s.withVnp { s.vnp with port := new })

/-- VN_ATTEMPT_END. A transmit error is followed by an error flag, at the level of the port state before the judgement; an unacknowledged attempt is followed by none (DESIGN CHOICE, log entry 19). -/
def execVnAttemptEnd (outcome : AttemptEnd) (s : State) : Answered :=
  match vnOnLine s.vnp with
  | some i =>
    let flag := if outcome = .transmitError then some (errorFrameBits (decide (s.vnp.port = .active))) else none
    let s := setVnSlot i ((s.vnp.slots[i]).endAttempt (decide (outcome = .success))) s
    .next (judgePort (s.withVnp { s.vnp with tec := tecAfter outcome s.vnp.tec, driven := flag }))
  | none => .next s

/-! ## Reception (R80, R92 to R94) -/

/-- VN_RECEIVE_ERROR (R80). The error flag has the level of the port state before the judgement (DESIGN CHOICE, log entry 19). -/
def execVnReceiveError (s : State) : Answered :=
  if s.vnp.port.live then
    .next (judgePort (s.withVnp { s.vnp with
      recv := min 255 (s.vnp.recv + 1), driven := some (errorFrameBits (decide (s.vnp.port = .active))) }))
  else .next s

/-- A filter takes a data frame (R93). -/
def RxFilter.takes (f : RxFilter) (extended : Bool) (identifier : Nat) : Bool :=
  decide (f.format = if extended then .extended else .standard) &&
    decide ((f.identifier ^^^ BitVec.ofNat 32 identifier) &&& f.mask = 0)

/-- The first filter that takes a data frame. -/
def firstFilter (v : Vnp) (extended : Bool) (identifier : Nat) : Option FilterIdx :=
  (List.finRange 16).find? (fun i => (v.filters[i]).takes extended identifier)

/-- The data bytes of a received frame: a length code above 8 is taken as 8 (R92). -/
def receivedData (f : VnFrame) : List Byte := padTo (min 8 f.lengthCode) f.data

/-- The ring after a data frame: at 32 entries the oldest is removed first (R94). -/
def ringPush (ring : List RingEntry) (e : RingEntry) : List RingEntry :=
  (if 32 ≤ ring.length then ring.drop 1 else ring) ++ [e]

/-- A received data frame is handed to the filters and to the ring (R92 to R94). -/
def takeDataFrame (f : VnFrame) (s : State) : State :=
  let data := receivedData f
  let offset := min 999999 (s.stu.sinceBoundary / 10)
  let seq := s.vnp.nextSeq
  let hit := firstFilter s.vnp f.extended f.identifier
  let entry : RingEntry :=
    { seq := seq, extended := f.extended, identifier := f.identifier, data := data, filter := hit, frame := s.stu.frame,
      offset := offset }
  let s := s.withVnp { s.vnp with nextSeq := (seq + 1) % 65536, ring := ringPush s.vnp.ring entry }
  match hit with
  | some i =>
    let latest : LatestRecord :=
      { identifier := f.identifier, data := data, seq := seq, frame := s.stu.frame, offset := offset }
    handHit { filter := i, identifier := f.identifier, data := data, tick := s.rcu.timebase }
      (s.withVnp { s.vnp with filters := vupd s.vnp.filters i (fun x => { x with latest := some latest }) })
  | none => s

/-- VN_FRAME_RECEIVED (R78, R92): the port has driven the acknowledgement slot dominant. A remote frame counts as a good receive and is not stored. -/
def execVnFrameReceived (after : Nat) (frame : VnFrame) (s : State) : Answered :=
  let s := elapse after s
  if s.vnp.port.live then
    let s := judgePort (s.withVnp { s.vnp with recv := s.vnp.recv - 1, driven := some [false] })
    if frame.remote then .next s else .next (takeDataFrame frame s)
  else .next s

/-! ## Table writes -/

/-- A TX_SLOTS record at the VNP (R83, R84). -/
def storeTxSlot (i : Nat) (bs : List Byte) (s : State) : State × Stored :=
  if h : i < 24 then
    match vnSlotOf bs with
    | none => (s, .refused .range)
    | some v =>
      let inst : Inst := match (s.vnp.slots[i]).inst with
        | .onLine x _ => .onLine x true
        | _ => .none
      let due : Timer :=
        if s.vnp.scheduler && v.enable && decide (v.period ≠ 0) then some (v.phase * Config.ticksPerMs) else none
      (setVnSlot ⟨i, h⟩ { v with inst := inst, due := due } s, .plain)
  else (s, .refused .range)

/-- An RX_FILTERS record at the VNP (R93). -/
def storeRxFilter (i : Nat) (bs : List Byte) (s : State) : State × Stored :=
  if h : i < 16 then
    match rxFilterOf bs with
    | none => (s, .refused .range)
    | some f => (s.withVnp { s.vnp with filters := vset s.vnp.filters ⟨i, h⟩ f }, .plain)
  else (s, .refused .range)

/-- The port restarts at FAULT_RESUME of VN_BUS_OFF (R82): next counts are kept. -/
def portRestart (s : State) : State :=
  let s := s.withVnp { s.vnp with port := .active, tec := 0, recv := 0, scheduler := true,
                                  slots := vmap VnSlot.start s.vnp.slots, driven := none }
  post (.vnStateChanged .busOff .active 0 0) s

end Sys2Proof.Machine
end

