-- ==== Sys2Proof/Machine/Capture.lean ====
section
/-! DEFINITION. The response capture unit (chapter 6): line events, pattern groups, channel edges, and the writes of PATTERN_GROUPS. -/

namespace Sys2Proof.Machine

/-! ## Pattern groups (6.4) -/

/-- A term's line takes part. -/
def Term.used : Term → Bool
  | .ignore => false
  | _ => true

/-- A transition term. -/
def Term.isTransition : Term → Bool
  | .rise => true
  | .fall => true
  | .change => true
  | _ => false

/-- A level term is true at a level; any other term does not judge levels. -/
def Term.levelTrue : Term → Bool → Bool
  | .low, level => !level
  | .high, level => level
  | _, _ => true

/-- A transition term accepts an edge that left this level; any other term asks for none. -/
def Term.edgeTrue : Term → Bool → Bool → Bool
  | .rise, changed, level => changed && level
  | .fall, changed, level => changed && !level
  | .change, changed, _ => changed
  | _, _, _ => true

/-- Every level term of the group is true in these levels (R100). -/
def Group.inPattern (g : Group) (levels : Vector Bool 16) : Bool :=
  (List.finRange 16).all (fun i => (g.terms[i]).levelTrue levels[i])

/-- The group matches a line event with this set of changed lines and these levels after it (R101). -/
def Group.hits (g : Group) (changed : BitVec 16) (levels : Vector Bool 16) : Bool :=
  if (List.finRange 16).any (fun i => (g.terms[i]).isTransition) then
    g.inPattern levels && (List.finRange 16).all (fun i => (g.terms[i]).edgeTrue (changed.getLsbD i.val) levels[i])
  else !g.mark && g.inPattern levels

/-- The group is judged: one of its terms is other than IGNORE (R101). -/
def Group.judged (g : Group) : Bool := (List.finRange 16).any (fun i => (g.terms[i]).used)

/-- Levels as bits, bit n for Ln. -/
def levelBits (levels : Vector Bool 16) : BitVec 16 :=
  (List.finRange 16).foldl (fun m i => if levels[i] then m ||| (1#16 <<< i.val) else m) 0

/-- Steps 1 to 4 of R102, and R103. -/
def Group.matched (g : Group) (levels : Vector Bool 16) (t : MatchStamp) : Group :=
  { g with count := min (g.count + 1) Config.countMax, last := some t, first := g.first.or (some t),
           snapshot := if g.latched then g.snapshot.or (some (levelBits levels, t)) else g.snapshot }

/-- A group after a line event. -/
def Group.atEvent (g : Group) (changed : BitVec 16) (levels : Vector Bool 16) (t : MatchStamp) : Group :=
  if g.judged then
    let h := if g.hits changed levels then g.matched levels t else g
    { h with mark := g.inPattern levels }
  else g

/-! ## Edges (R97, R99) -/

/-- The conditioned levels of the lines. -/
def lineLevels (r : Rcu) : Vector Bool 16 := Vector.ofFn (fun i => (r.lines[i]).level)

/-- The comparator output of line `l` set so that its inverted sample is `level`. An edge whose run count has reached its bound was made by samples already taken, and leaves the output as it is. -/
def setSample (r : Rcu) (l : LineIdx) (run filter : Nat) (level : Bool) (obs : BitVec 16) : BitVec 16 :=
  if max filter 1 ≤ run then obs
  else if level != (r.lines[l]).invert then obs ||| (1#16 <<< l.val)
  else obs &&& ~~~(1#16 <<< l.val)

/-- A line after an accepted edge at stamp `t`. -/
def Line.edge (l : Line) (t : Stamp) : Line :=
  { l with level := !l.level, run := 0, lastEdge := some { tick := t, rise := !l.level } }

/-- The accepted edges of a set of lines at one tick: the line event and its matches (R97, R99, R101, R102). Several groups that match at one line event are handed to the CKE in ascending index (DESIGN CHOICE, log entry 24). -/
def lineEvent (changed : BitVec 16) (s : State) : State :=
  let now := s.rcu.timebase
  let lines : Vector Line 16 :=
    Vector.ofFn (fun i => if changed.getLsbD i.val then (s.rcu.lines[i]).edge now else s.rcu.lines[i])
  let r := { s.rcu with lines := lines }
  let obs := (List.finRange 16).foldl
    (fun m i =>
      let l := s.rcu.lines[i]
      if changed.getLsbD i.val then setSample s.rcu i l.run l.filter (!l.level) m else m) s.pins.obs
  let levels := lineLevels r
  let t : MatchStamp := { tick := now, frame := s.stu.frame }
  let hits := (List.finRange 4).filter (fun g => (r.groups[g]).judged && (r.groups[g]).hits changed levels)
  let r := { r with groups := vmap (fun g => g.atEvent changed levels t) r.groups }
  let s := (s.withPins { s.pins with obs := obs }).withRcu r
  hits.foldl (fun s g => handMatch g s) s

/-- LINE_EDGE_ACCEPTED. -/
def execLineEdgeAccepted (after : Nat) (lines : BitVec 16) (s : State) : Answered :=
  let s := elapse after s
  if lines = 0 then .next s else .next (lineEvent lines s)

/-- CHANNEL_EDGE (R106, R108). -/
def execChannelEdge (after : Nat) (channel : MeasIdx) (s : State) : Answered :=
  let s := elapse after s
  match s.rcu.meas[channel] with
  | some l =>
    let (l', hit) := l.edge s.rcu.timebase
    let obs := setSample s.rcu l.line l.run l.filter l'.level s.pins.obs
    let s := setMeas channel (some l') (s.withPins { s.pins with obs := obs })
    let s := postThreshold l.holder channel hit s
    match hit with
    | some t => .next (handThreshold l.holder t s)
    | none => .next s
  | none => .next s

/-! ## CLEAR_PATTERN (R103) -/

/-- CLEAR_PATTERN at the RCU. -/
def ownClearPattern (bs : List Byte) (s : State) : State × Reply :=
  let n := field bs 0 1
  if h : n < 4 then
    let g : GroupIdx := ⟨n, h⟩
    (s.withRcu { s.rcu with
      groups := vupd s.rcu.groups g (fun x => { x with count := 0, first := none, last := none, snapshot := none }) },
      okReply)
  else refused .range s

/-- CLEAR_PATTERN. -/
def execClearPattern (p : Params) (s : State) : Answered :=
  .next (linkCommand 16 (exactly 1) .needed .normalHalted p ownClearPattern s)

/-! ## Table writes (R98, R100, R104) -/

/-- The marks of all groups judged again from the levels, without a match. -/
def Rcu.remark (r : Rcu) : Rcu :=
  let levels := lineLevels r
  { r with groups := vmap (fun g => { g with mark := g.inPattern levels }) r.groups }

/-- A group as a write stores it (R100). -/
def Group.written (terms : Vector Term 16) (latched : Bool) (levels : Vector Bool 16) : Group :=
  let g : Group := { Group.blank with terms := terms, latched := latched }
  { g with mark := g.inPattern levels }

/-- A record 0 to 3 of PATTERN_GROUPS. -/
def storeGroup (g : GroupIdx) (bs : List Byte) (s : State) : State × Stored :=
  match groupOf bs with
  | none => (s, .refused .range)
  | some (terms, latched) =>
    (s.withRcu { s.rcu with groups := vset s.rcu.groups g (Group.written terms latched (lineLevels s.rcu)) }, .plain)

/-- A measurement channel is lent with this line as its observed line. -/
def lineLent (r : Rcu) (l : LineIdx) : Bool :=
  (List.finRange 4).any (fun m => decide ((r.meas[m]).map (·.line) = some l))

/-- A record 4 to 19 of PATTERN_GROUPS. What stands in bits 7 to 1 of byte 0, which 11.4 marks as sent 0, is ignored and reads back as 0 (DESIGN CHOICE, log entry 7). -/
def storeLine (l : LineIdx) (bs : List Byte) (s : State) : State × Stored :=
  if lineLent s.rcu l then (s, .refused .busy)
  else
    let invert := (field bs 0 1).testBit 0
    let level := s.pins.obs.getLsbD l.val != invert
    let r := { s.rcu with
      lines := vupd s.rcu.lines l (fun x => { x with invert := invert, filter := field bs 1 1, level := level, run := 0 }) }
    (s.withRcu r.remark, .plain)

/-- A record of PATTERN_GROUPS at the RCU. -/
def storePattern (i : Nat) (bs : List Byte) (s : State) : State × Stored :=
  if h : i < 4 then storeGroup ⟨i, h⟩ bs s
  else if i < 20 then storeLine (Fin.ofNat 16 (i - 4)) bs s
  else (s, .refused .range)

end Sys2Proof.Machine
end

