-- ==== Sys2Proof/Machine/Checks.lean ====
section
/-! DEFINITION. The commands and timers of the check evaluator (chapter 7): arming, disarming, clearing, publication, the writing of definitions, and the expiries. -/

namespace Sys2Proof.Machine

/-- The test record without the checks of a set. -/
def recordWithout (r : List RecordEntry) (is : List CheckIdx) : List RecordEntry :=
  r.filter (fun e => !is.contains e.check)

/-- The run-time part of a check as it is armed (R116). -/
def RunPart.fresh (seq : BitVec 48) : RunPart :=
  { armSeq := seq, start := none, settle := none, deadline := none, waiting := false, samples := [], window := none }

/-- The start condition of an ARMED check is met at the arming (R117). -/
def metAtArming (s : State) (d : CheckDef) : Bool :=
  decide (d.cond = 0) || (decide (d.cond = 1) && decide (d.condArg ≤ s.stu.frame.toNat)) ||
    (decide (d.cond = 4) && !(s.cke.checks[Fin.ofNat 48 d.condArg]).state.isArmed)

/-- The checks of a set are armed, and then their start conditions are judged (R116, R117). The first set armed after CONFIGURE takes the value 1: R116 starts the arming sequence at 0 and gives each command 'the next value', which could also be 0 (DESIGN CHOICE, log entry 22). -/
def armSet (is : List CheckIdx) (s : State) : State :=
  let seq := s.cke.armSeq + 1
  let arm (s : State) (i : CheckIdx) : State :=
    setCheck i { s.cke.checks[i] with state := .armed, run := some (.fresh seq) } s
  let s := is.foldl arm (s.withCke { s.cke with armSeq := seq, record := recordWithout s.cke.record is })
  settleWork (startList s.rcu.timebase (is.filter (fun i => metAtArming s (s.cke.checks[i]).defn)) s)

/-- ARM_CHECKS at the CKE (R116). -/
def ownArm (bs : List Byte) (s : State) : State × Reply :=
  let is := checkSet bs
  if s.hfu.mode ≠ .normal ∨ s.ncu.nest ≠ .powered then refused .wrongState s
  else if is.any (fun i => (s.cke.checks[i]).state.isArmed) then refused .busy s
  else if is.any (fun i => decide ((s.cke.checks[i]).defn.kind = .none)) then refused .range s
  else (armSet is s, okReply)

/-- ARM_CHECKS. -/
def execArmChecks (p : Params) (s : State) : Answered :=
  .next (linkCommand 17 (exactly 6) .needed .normalHalted p ownArm s)

/-- DISARM_CHECKS at the CKE (R133). -/
def ownDisarm (bs : List Byte) (s : State) : State × Reply :=
  let is := checkSet bs
  let n := (is.filter (fun i => (s.cke.checks[i]).state.isArmed)).length
  (abortSet .disarm (fun i _ => is.contains i) s, okWith (leBytes 1 n))

/-- DISARM_CHECKS. -/
def execDisarmChecks (p : Params) (s : State) : Answered :=
  .next (linkCommand 18 (exactly 6) .needed .normalHalted p ownDisarm s)

/-- CLEAR_RESULTS at the CKE (R134). -/
def ownClearResults (_ : List Byte) (s : State) : State × Reply :=
  let n := s.cke.record.length
  let back (c : Check) : Check := if c.state.isEnded then { c with state := .idle } else c
  (s.withCke { s.cke with record := [], checks := vmap back s.cke.checks }, okWith (leBytes 1 n))

/-- CLEAR_RESULTS. -/
def execClearResults (p : Params) (s : State) : Answered :=
  .next (linkCommand 19 (exactly 0) .needed .normalHalted p ownClearResults s)

/-- PUBLISH_RESULT at the CKE (R135). -/
def ownPublish (_ : List Byte) (s : State) : State × Reply :=
  let c := countVerdicts s.cke.record
  let v := stationVerdict c
  let serial := (s.cke.serial + 1) % 256
  let s := s.withCke { s.cke with verdict := some v, serial := serial }
  (request (.result serial v c) s, okWith (leBytes 1 serial ++ leBytes 1 v.code ++ c.bytes))

/-- PUBLISH_RESULT. -/
def execPublishResult (p : Params) (s : State) : Answered :=
  .next (linkCommand 20 (exactly 0) .needed .normalHalted p ownPublish s)

/-- A CHECKS record at the CKE (R114). -/
def storeCheck (i : Nat) (bs : List Byte) (s : State) : State × Stored :=
  if h : i < 48 then
    let idx : CheckIdx := ⟨i, h⟩
    if (s.cke.checks[idx]).state.isArmed then (s, .refused .busy)
    else match checkDefOf bs with
      | none => (s, .refused .range)
      | some d =>
        if d.inRange idx then
          let s := setCheck idx { defn := d.adjust, state := .idle, run := none } s
          (s.withCke { s.cke with record := recordWithout s.cke.record [idx] },
            if d.adjust = d then .plain else .adjusted)
        else (s, .refused .range)
  else (s, .refused .range)

/-! ## Expiries -/

/-- SETTLE_TIMER_EXPIRY (R118). -/
def execSettleTimerExpiry (check : CheckIdx) (s : State) : Answered :=
  .next (onExpiry ((s.cke.checks[check]).run.bind (·.settle)) (fun s => settleWork (s, [.settled check])) s)

/-- DEADLINE_EXPIRY (R119). -/
def execDeadlineExpiry (check : CheckIdx) (s : State) : Answered :=
  .next (onExpiry ((s.cke.checks[check]).run.bind (·.deadline)) (expireDeadline check) s)

/-- WINDOW_CLOSE (R122). -/
def execWindowClose (check : CheckIdx) (s : State) : Answered :=
  .next (onExpiry ((s.cke.checks[check]).run.bind (fun r => r.window.bind (·.left))) (closeWindow check) s)

end Sys2Proof.Machine
end

