-- ==== Sys2Proof/Machine/Nest.lean ====
section
/-! DEFINITION. The nest (chapter 2): the raw inputs and their debounce, the debounced changes, the clamp commands and the clamp motion. -/

namespace Sys2Proof.Machine

/-! ## Raw inputs (R20, R149) -/

/-- The pins with one raw input at a level. -/
def setRaw (input : RawInput) (level : Bool) (p : Pins) : Pins :=
  match input with
  | .seat .seatA => { p with seatA := level }
  | .seat .seatB => { p with seatB := level }
  | .clampClosed => { p with clampClosed := level }
  | .clampOpen => { p with clampOpen := level }
  | .halt .haltIn => { p with haltIn := level }
  | .halt .estop => { p with estop := level }
  | .key .ok => { p with keyOk := level }
  | .key .pass => { p with keyPass := level }
  | .key .fail => { p with keyFail := level }
  | .haltReset => { p with keyHaltReset := level }
  | .line l => { p with obs := if level then p.obs ||| (1#16 <<< l.val) else p.obs &&& ~~~(1#16 <<< l.val) }

/-- The debounce times of the seat sensors, of the clamp sensors and keys, and of the halt inputs, in ticks. -/
def seatDebounce : Nat := 50 * Config.ticksPerMs
def clampDebounce : Nat := 20 * Config.ticksPerMs
def haltDebounce : Nat := 10 * Config.ticksPerMs

/-- A debounced input whose raw level becomes `raw`: the timer starts where they come to differ, and stops where they agree. -/
def Debounced.raw (d : Debounced) (time : Nat) (raw : Bool) : Debounced :=
  { d with timer := if raw = d.level then none else d.timer.or (some time) }

/-- The input is read on this station: ESTOP and the keys only where the PANEL strap read set (R21, R180). -/
def inputRead (s : State) (input : RawInput) : Bool :=
  match input with
  | .halt .estop => s.cml.strapPanel
  | .key _ => s.cml.strapPanel
  | .haltReset => s.cml.strapPanel
  | _ => true

/-- The debounce of a raw input's change. -/
def startDebounce (input : RawInput) (level : Bool) (s : State) : State :=
  let n := s.ncu
  let p := s.prs
  match input with
  | .seat .seatA => s.withNcu { n with seatA := n.seatA.raw seatDebounce level }
  | .seat .seatB => s.withNcu { n with seatB := n.seatB.raw seatDebounce level }
  | .clampClosed => s.withNcu { n with clampClosed := n.clampClosed.raw clampDebounce level }
  | .clampOpen => s.withNcu { n with clampOpen := n.clampOpen.raw clampDebounce level }
  | .halt .haltIn => s.withNcu { n with haltIn := n.haltIn.raw haltDebounce level }
  | .halt .estop => s.withNcu { n with estop := n.estop.raw haltDebounce level }
  | .key .ok => s.withPrs { p with keyOk := p.keyOk.raw Config.keyDebounceTicks level }
  | .key .pass => s.withPrs { p with keyPass := p.keyPass.raw Config.keyDebounceTicks level }
  | .key .fail => s.withPrs { p with keyFail := p.keyFail.raw Config.keyDebounceTicks level }
  | .haltReset => s.withPrs { p with keyHaltReset := p.keyHaltReset.raw Config.keyDebounceTicks level }
  | .line _ => s

/-- RAW_INPUT_CHANGE. An observation line has no debounce timer: its sample is the pin (R97). -/
def execRawInputChange (input : RawInput) (level : Bool) (s : State) : Answered :=
  let s' := s.withPins (setRaw input level s.pins)
  if inputRead s input then .next (startDebounce input level s') else .next s'

/-! ## Debounced changes -/

/-- A debounced level becomes `level`: the time left on its timer goes by, and the change is taken as one event. A level that it already has is no change. -/
def takeChange (d : Debounced) (input : RawInput) (level : Bool) (put : Debounced → State → State)
    (effect : State → State) (s : State) : State :=
  if d.level = level then s
  else
    let s := elapse (d.timer.getD 0) s
    effect (put (.at level) (s.withPins (setRaw input level s.pins)))

/-- SEAT_CHANGED with the levels and nest state as they stand (R24). -/
def postSeatChanged (s : State) : State :=
  let n := s.ncu
  post (.seatChanged n.seatA.level n.seatB.level n.clampClosed.level n.clampOpen.level n.nest) s

/-- A sensor change that is followed by a derivation and SEAT_CHANGED (R24, R34). -/
def deriveAndPost (s : State) : State := postSeatChanged (derive s)

/-- The nest states in which a loss of seat or clamp is a fault (R32, R33). -/
def NestState.held : NestState → Bool
  | .clamped => true
  | .powerWait => true
  | .powered => true
  | _ => false

/-- The nest state is EMPTY or SEATED. -/
def NestState.loose : NestState → Bool
  | .empty => true
  | .seated => true
  | _ => false

/-- A clamp motion in this direction runs. Its coil, CLOSE_DRIVE or OPEN_DRIVE, is energized exactly while it does (2.3, 2.4). -/
def movingTo (d : Direction) (n : Ncu) : Bool := decide (n.motion.map (·.dir) = some d)

/-- A sensor change is followed by derivation and SEAT_CHANGED: in NORMAL while EMPTY or SEATED, and while HALTED (R24, R34). -/
def followsSensors (s : State) : Bool :=
  match s.hfu.mode with
  | .normal => s.ncu.nest.loose
  | .halted => true
  | _ => false

/-- The seat pair has ceased to be asserted in CLAMPING: the motion stops, without a fault (R26). -/
def seatStopsClamp (s : State) : State :=
  let s := derive (clearMotion s)
  post (.clampDone false s.ncu.nest) s

/-- A debounced seat change; `was` is the seat pair before it (R24, R26, R32, R34, R35). A loss in CLAMPED, POWER_WAIT or POWERED raises its cause and leaves the nest as it stands, in HALTED too: the station is in FAULT by then, R35 holds the nest there, and the derivation that R34 lets follow comes when the fault is left (DEDUCED, log entry 13). -/
def seatEffect (was : Bool) (s : State) : State :=
  if configured s = false then s
  else
    let lost := was && !seatPair s.ncu
    if lost && s.ncu.nest.held then raiseFault .seatLost s
    else if followsSensors s then deriveAndPost s
    else if lost && movingTo .closing s.ncu then seatStopsClamp s
    else s

def putSeat (i : SeatInput) (d : Debounced) (s : State) : State :=
  match i with
  | .seatA => s.withNcu { s.ncu with seatA := d }
  | .seatB => s.withNcu { s.ncu with seatB := d }

/-- SEAT_DEBOUNCED_CHANGE. -/
def execSeatDebouncedChange (input : SeatInput) (level : Bool) (s : State) : Answered :=
  let d := match input with | .seatA => s.ncu.seatA | .seatB => s.ncu.seatB
  .next (takeChange d (.seat input) level (putSeat input) (seatEffect (seatPair s.ncu)) s)

/-- A debounced change of clamp-closed (R24, R26, R33 to R35). A loss leaves the nest as `seatEffect` does (DEDUCED, log entry 13). -/
def clampClosedEffect (s : State) : State :=
  if configured s = false then s
  else
    let closed := s.ncu.clampClosed.level
    if !closed && s.ncu.nest.held then raiseFault .clampLost s
    else if followsSensors s then deriveAndPost s
    else if closed && movingTo .closing s.ncu then post (.clampDone true .clamped) (setNest .clamped (clearMotion s))
    else s

/-- CLAMP_CLOSED_DEBOUNCED_CHANGE. -/
def execClampClosedDebouncedChange (level : Bool) (s : State) : Answered :=
  .next (takeChange s.ncu.clampClosed .clampClosed level (fun d s => s.withNcu { s.ncu with clampClosed := d })
    clampClosedEffect s)

/-- A debounced change of clamp-open (R24, R28, R34). In EMPTY and SEATED it posts with the state unchanged. -/
def clampOpenEffect (s : State) : State :=
  if configured s = false then s
  else if s.hfu.mode = .halted then deriveAndPost s
  else if s.hfu.mode = .normal && s.ncu.nest.loose then postSeatChanged s
  else if s.ncu.clampOpen.level && movingTo .opening s.ncu then
    let s := derive (clearMotion s)
    post (.unclampDone true s.ncu.nest) s
  else s

/-- CLAMP_OPEN_DEBOUNCED_CHANGE. -/
def execClampOpenDebouncedChange (level : Bool) (s : State) : Answered :=
  .next (takeChange s.ncu.clampOpen .clampOpen level (fun d s => s.withNcu { s.ncu with clampOpen := d })
    clampOpenEffect s)

/-- The halt input has been formed anew; `was` is the input before (R21, R156, R157). -/
def haltInputEffect (was : Bool) (s : State) : State :=
  let now := haltInput s
  if now = was then s
  else
    let s := changeSources (setOwnMember (ownIdx s) now) s
    if configured s then request (if now then .halt else .haltClear false) s else s

/-- HALT_INPUT_CHANGE. ESTOP is read on a panel-strapped station alone (R21). -/
def execHaltInputChange (input : HaltInput) (level : Bool) (s : State) : Answered :=
  match input with
  | .haltIn =>
    .next (takeChange s.ncu.haltIn (.halt .haltIn) level (fun d s => s.withNcu { s.ncu with haltIn := d })
      (haltInputEffect (haltInput s)) s)
  | .estop =>
    if s.cml.strapPanel then
      .next (takeChange s.ncu.estop (.halt .estop) level (fun d s => s.withNcu { s.ncu with estop := d })
        (haltInputEffect (haltInput s)) s)
    else .next (s.withPins (setRaw (.halt .estop) level s.pins))

/-! ## Clamp commands (R25, R27, R29) -/

/-- A motion starts with the full CLAMP_TIME_LIMIT. -/
def startMotion (d : Direction) (n : NestState) (s : State) : State :=
  s.withNcu { s.ncu with nest := n, motion := some { dir := d, left := (conf s).clampLimit * Config.ticksPerMs } }

/-- CLAMP at the NCU (R25). -/
def ownClamp (_ : List Byte) (s : State) : State × Reply :=
  if s.hfu.mode = .normal ∧ s.ncu.nest = .seated then (startMotion .closing .clamping s, okReply)
  else refused .wrongState s

/-- CLAMP. -/
def execClamp (p : Params) (s : State) : Answered :=
  .next (linkCommand 6 (exactly 0) .needed .normalHalted p ownClamp s)

/-- UNCLAMP is taken in this nest state (R27). -/
def unclampTaken (n : Ncu) : Bool := decide (n.nest = .clamped) || (n.nest.loose && !n.clampOpen.level)

/-- UNCLAMP at the NCU (R27). -/
def ownUnclamp (_ : List Byte) (s : State) : State × Reply :=
  if s.hfu.mode = .normal ∧ unclampTaken s.ncu then (startMotion .opening .unclamping s, okReply)
  else refused .wrongState s

/-- UNCLAMP. -/
def execUnclamp (p : Params) (s : State) : Answered :=
  .next (linkCommand 7 (exactly 0) .needed .normalHalted p ownUnclamp s)

/-- MOTION_TIMER_EXPIRY (R26, R28): the nest state stays, and CLAMP_TIMEOUT is raised. -/
def execMotionTimerExpiry (s : State) : Answered :=
  match s.ncu.motion with
  | some m => .next (raiseFault (.clampTimeout m.dir) (clearMotion (elapse m.left s)))
  | none => .next s

end Sys2Proof.Machine
end

