-- ==== Sys2Proof/Machine/Supply.lean ====
section
/-! DEFINITION. The DUT supply (chapter 3): the power commands, the switch and source senses, the current monitor, the claim and inrush timers, and the switch-over. -/

namespace Sys2Proof.Machine

/-! ## Power commands (R46, R50, R51) -/

/-- Steps 2 to 4 of R46: the claim is made and the power-wait timer starts. -/
def makeClaim (s : State) : State :=
  let s := s.withDsu { s.dsu with ownClaim := .waiting, listed := false,
                                  powerWait := some (Config.powerWaitMs * Config.ticksPerMs) }
  request (.slotClaim (conf s).tInrush) s

/-- POWER_ON at the NCU and then the DSU (R29, R46). A transmitter that discards the claim leaves everything as it was. -/
def ownPowerOn (bs : List Byte) (s : State) : State × Reply :=
  if s.hfu.mode = .normal ∧ s.ncu.nest = .clamped ∧ seatPair s.ncu then
    match railOf (field bs 0 1) with
    | none => refused .range s
    | some r =>
      if sourceGood s r = false then refused .sourceNotReady s
      else if s.rbc.tx.off then refused .wrongState s
      else (setNest .powerWait (makeClaim (s.withDsu { s.dsu with requested := some r })), okReply)
  else refused .wrongState s

/-- POWER_ON. -/
def execPowerOn (p : Params) (s : State) : Answered :=
  .next (linkCommand 8 (exactly 1) .needed .normalHalted p ownPowerOn s)

/-- An event that names the requested source. -/
def postRequested (e : Rail → Event) (s : State) : State :=
  match s.dsu.requested with
  | some r => post (e r) s
  | none => s

/-- POWER_OFF in POWERED (R50). -/
def powerDown (s : State) : State :=
  let s := openBoth s
  let s := if s.dsu.inrush.isSome then withdraw (s.withDsu { s.dsu with inrush := none })
    else s.withDsu { s.dsu with ownClaim := .none }
  leaveFor .clamped (abortAll .powerOff (stuSafe s))

/-- POWER_OFF at the NCU and then the DSU (R29, R50). -/
def ownPowerOff (_ : List Byte) (s : State) : State × Reply :=
  if s.hfu.mode = .normal ∧ s.ncu.nest = .powerWait then
    (postRequested .powerCancelled (setNest .clamped (withdraw s)), okReply)
  else if s.hfu.mode = .normal ∧ s.ncu.nest = .powered then (powerDown s, okReply)
  else refused .wrongState s

/-- POWER_OFF. -/
def execPowerOff (p : Params) (s : State) : Answered :=
  .next (linkCommand 9 (exactly 0) .needed .normalHalted p ownPowerOff s)

/-- Step 4 of R51: a switch-over to `r` starts, with its confirmed mark clear (log entry 12). -/
def startSwitchOver (r : Rail) (s : State) : State :=
  let s := closeSwitch r s
  s.withDsu { s.dsu with switchOver := some { target := r, old := otherRail r, overlap := some Config.overlapTicks,
                                              confirm := some Config.confirmTicks, confirmed := false } }

/-- SWITCH_SOURCE at the NCU and then the DSU (R29, R51). -/
def ownSwitchSource (bs : List Byte) (s : State) : State × Reply :=
  if s.hfu.mode = .normal ∧ s.ncu.nest = .powered then
    match railOf (field bs 0 1) with
    | none => refused .range s
    | some r =>
      if s.dsu.switchOver.isSome then refused .busy s
      else if feeding s.dsu r && !feeding s.dsu (otherRail r) then (post (.switchDone r) s, okReply)
      else if sourceGood s r = false then refused .sourceNotReady s
      else (startSwitchOver r s, okReply)
  else refused .wrongState s

/-- SWITCH_SOURCE. -/
def execSwitchSource (p : Params) (s : State) : Answered :=
  .next (linkCommand 10 (exactly 1) .needed .normalHalted p ownSwitchSource s)

/-! ## Switch-over (R52) -/

/-- A switch-over completes: the old source is commanded OPEN, and the target is watched from now on. -/
def completeSwitchOver (s : State) : State :=
  match s.dsu.switchOver with
  | some x =>
    let s := openSwitch x.old s
    let s := s.withDsu { s.dsu with switchOver := none }
    judgeMismatch x.target (post (.switchDone x.target) s)
  | none => s

/-- Change the record of a switch-over in flight. -/
def updSwitchOver (f : SwitchOver → SwitchOver) (s : State) : State :=
  s.withDsu { s.dsu with switchOver := s.dsu.switchOver.map f }

/-- OVERLAP_TIMER_EXPIRY. -/
def execOverlapTimerExpiry (s : State) : Answered :=
  .next (onExpiry (s.dsu.switchOver.bind (·.overlap)) (fun s =>
    let s := updSwitchOver (fun x => { x with overlap := none }) s
    if (s.dsu.switchOver.map (·.confirmed)).getD false then completeSwitchOver s else s) s)

/-- CONFIRMATION_TIMER_EXPIRY. -/
def execConfirmationTimerExpiry (s : State) : Answered :=
  .next (onExpiry (s.dsu.switchOver.bind (·.confirm)) (fun s =>
    let s := updSwitchOver (fun x => { x with confirm := none }) s
    if (s.dsu.switchOver.map (·.confirmed)).getD false then s else failSwitchOver 0 s) s)

/-! ## Senses (R37 to R39) -/

/-- TRANSITION_WINDOW_EXPIRY (R37, R38). -/
def execTransitionWindowExpiry (rail : Rail) (s : State) : Answered :=
  .next (onExpiry (s.dsu.sw rail).window (fun s =>
    judgeMismatch rail (s.withDsu (s.dsu.setSw rail { s.dsu.sw rail with window := none }))) s)

/-- The pins with a feedback sense at a level. -/
def setFeedback (r : Rail) (level : Bool) (p : Pins) : Pins :=
  match r with
  | .main => { p with mainFb := level }
  | .aux => { p with auxFb := level }

/-- The pins with a source-good sense at a level. -/
def setSourceGood (r : Rail) (level : Bool) (p : Pins) : Pins :=
  match r with
  | .main => { p with mainOk := level }
  | .aux => { p with auxOk := level }

/-- The target of a switch-over in flight is this rail. -/
def isTarget (s : State) (r : Rail) : Bool := decide (s.dsu.switchOver.map (·.target) = some r)

/-- The target of a switch-over is confirmed closed (R52). -/
def confirmTarget (s : State) : State :=
  match s.dsu.switchOver with
  | some x =>
    if x.confirm.isSome then
      let s := updSwitchOver (fun y => { y with confirmed := true }) s
      if x.overlap.isNone then completeSwitchOver s else s
    else s
  | none => s

/-- SWITCH_FEEDBACK_CHANGE (R37, R38, R52). -/
def execSwitchFeedbackChange (rail : Rail) (level : Bool) (s : State) : Answered :=
  if feedback s rail = level then .next s
  else
    let s := s.withPins (setFeedback rail level s.pins)
    let x := s.dsu.sw rail
    let s := if level = x.closed then s.withDsu (s.dsu.setSw rail { x with window := none, mismatch := none })
      else judgeMismatch rail s
    if level && isTarget s rail then .next (confirmTarget s) else .next s

/-- MISMATCH_TIMER_EXPIRY (R38). -/
def execMismatchTimerExpiry (rail : Rail) (s : State) : Answered :=
  .next (onExpiry (s.dsu.sw rail).mismatch (fun s =>
    raiseFault (.supplyFeedback rail) (s.withDsu (s.dsu.setSw rail { s.dsu.sw rail with mismatch := none }))) s)

/-- SOURCE_GOOD_CHANGE (R39, R52). -/
def execSourceGoodChange (rail : Rail) (level : Bool) (s : State) : Answered :=
  if sourceGood s rail = level then .next s
  else
    let s := s.withPins (setSourceGood rail level s.pins)
    if isTarget s rail then if level then .next s else .next (failSwitchOver 1 s)
    else
      let x := s.dsu.sw rail
      let loss : Timer := if level then none else if configured s && x.closed then some Config.lossTicks else x.loss
      .next (s.withDsu (s.dsu.setSw rail { x with loss := loss }))

/-- LOSS_TIMER_EXPIRY (R39). -/
def execLossTimerExpiry (rail : Rail) (s : State) : Answered :=
  .next (onExpiry (s.dsu.sw rail).loss (fun s =>
    raiseFault (.supplyLost rail) (s.withDsu (s.dsu.setSw rail { s.dsu.sw rail with loss := none }))) s)

/-! ## Current monitor (R40, R41) -/

/-- The current limit in force, in units of 10 µA (R41). -/
def currentLimit (s : State) : Nat :=
  if s.dsu.inrush.isSome then (conf s).iInrush * 100 else (conf s).iRun * 100

/-- The trip logic at a sample (R41). -/
def tripLogic (x : Nat) (s : State) : State :=
  if s.dsu.main.closed || s.dsu.aux.closed then
    if currentLimit s < x then
      if (conf s).tripDelay ≤ s.dsu.overCount + 1 then
        raiseFault (.overcurrent x (currentLimit s)) (s.withDsu { s.dsu with overCount := 0 })
      else s.withDsu { s.dsu with overCount := s.dsu.overCount + 1 }
    else s.withDsu { s.dsu with overCount := 0 }
  else s.withDsu { s.dsu with overCount := 0 }

/-- CURRENT_SAMPLE. The shunt stands at the reading from then on, so that the samples that fall due by themselves take it too (DESIGN CHOICE, log entry 29). -/
def execCurrentSample (reading : Nat) (s : State) : Answered :=
  let s := elapse s.dsu.sampleLeft s
  let x := min reading Config.maxCurrent
  let s := s.withPins { s.pins with current := reading }
  let s := s.withDsu { s.dsu with sampleLeft := Config.sampleTicks, latestSample := x }
  .next (tripLogic x (handCurrent x s))

/-! ## Claim and inrush timers (R44, R48, R49) -/

/-- CLAIM_EXPIRY (R44). -/
def execClaimExpiry (station : StationIdx) (s : State) : Answered :=
  .next (onExpiry ((s.dsu.claims.find? (fun e => e.station = station)).bind (·.expiry))
    (fun s => judgeGrants (dropClaim station s)) s)

/-- INRUSH_WINDOW_EXPIRY (R48). -/
def execInrushWindowExpiry (s : State) : Answered :=
  .next (onExpiry s.dsu.inrush (fun s =>
    request .slotRelease (s.withDsu { s.dsu with inrush := none, ownClaim := .none })) s)

/-- POWER_WAIT_TIMEOUT (R49). A nest held in FAULT is not moved (R35). -/
def execPowerWaitTimeout (s : State) : Answered :=
  .next (onExpiry s.dsu.powerWait (fun s =>
    let s := withdraw s
    let s := s.withDsu { s.dsu with powerWait := none }
    let s := if s.hfu.mode = .normal ∧ s.ncu.nest = .powerWait then setNest .clamped s else s
    postRequested .powerWaitTimeout s) s)

end Sys2Proof.Machine
end

