-- ==== Sys2Proof/Machine/Prompts.lean ====
section
/-! DEFINITION. The commands, keys and timers of the prompt service (chapter 8). -/

namespace Sys2Proof.Machine

/-! ## PROMPT and CANCEL_PROMPT (R138, R141) -/

/-- The duration a request stores: 1 to 30 for NOTICE, 0 otherwise (R138). -/
def storedDuration (k : PromptKind) (d : Nat) : Nat := if k = .notice then clampNat 1 30 d else 0

/-- PROMPT at the PRS (R138). A request the RBC discards is emptied at once, and its tag stays used. An OK_ADJUSTED answer gives the tag alone, as an OK answer does, without the stored duration (DESIGN CHOICE, log entry 7). -/
def ownPrompt (bs : List Byte) (s : State) : State × Reply :=
  match PromptKind.ofCode (field bs 0 1) with
  | none => refused .range s
  | some k =>
    let d := field bs 3 1
    if 2 ≤ field bs 1 1 then refused .range s
    else if s.hfu.mode ≠ .normal then refused .wrongState s
    else if s.prs.slot.isSome then refused .busy s
    else
      let tag := s.prs.tagCounter
      let discarded := s.rbc.tx.off
      let s := fillSlot none k (decide (field bs 1 1 = 1)) (field bs 2 1) (storedDuration k d) s
      if discarded then (settleWork (closeSlot s, [.slotFree]), refuse .wrongState)
      else (s, okIf (decide (k = .notice ∧ storedDuration k d ≠ d)) (leBytes 1 tag.val))

/-- PROMPT. -/
def execPrompt (p : Params) (s : State) : Answered :=
  .next (linkCommand 21 (exactly 4) .needed .normalHalted p ownPrompt s)

/-- CANCEL_PROMPT at the PRS (R141). -/
def ownCancelPrompt (_ : List Byte) (s : State) : State × Reply :=
  match s.prs.slot with
  | none => (s, okWith (optBytes 1 none))
  | some p =>
    if p.holder.isSome then refused .busy s
    else (settleWork (cancelSlot s, [.slotFree]), okWith (optBytes 1 (some (leBytes 1 p.tag.val))))

/-- CANCEL_PROMPT. -/
def execCancelPrompt (p : Params) (s : State) : Answered :=
  .next (linkCommand 22 (exactly 0) .needed .normalHalted p ownCancelPrompt s)

/-! ## Timers (R141, R146, R148) -/

/-- The answer timer has expired (R141). -/
def answerExpired (s : State) : State :=
  match s.prs.slot with
  | some p =>
    let s := cancelSlot s
    let s := if p.holder.isNone then post (.promptTimeout p.tag p.message false) s else s
    handOutcome p.holder timeoutSample s
  | none => s

/-- ANSWER_TIMER_EXPIRY. -/
def execAnswerTimerExpiry (s : State) : Answered :=
  .next (onExpiry (s.prs.slot.bind (·.answer)) answerExpired s)

/-- NOTICE_TIMER_EXPIRY (R146): the entry is removed wherever it stands. -/
def execNoticeTimerExpiry (station : StationIdx) (s : State) : Answered :=
  .next (onExpiry ((s.prs.queue.find? (fun e => e.station = station)).bind (·.notice))
    (changeQueue (queueDrop station (fun _ => true))) s)

/-- KEY_SETTLE_EXPIRY (R148). -/
def execKeySettleExpiry (s : State) : Answered :=
  .next (onExpiry s.prs.keySettle (fun s => s.withPrs { s.prs with keySettle := none }) s)

/-! ## Keys (R149, R159) -/

/-- The answer of a key. -/
def keyAnswer : AnswerKey → Answer
  | .ok => .ok
  | .pass => .pass
  | .fail => .fail

/-- The debounce state of a key. -/
def keyOf (p : Prs) : AnswerKey → Debounced
  | .ok => p.keyOk
  | .pass => p.keyPass
  | .fail => p.keyFail

def putKey (k : AnswerKey) (d : Debounced) (p : Prs) : Prs :=
  match k with
  | .ok => { p with keyOk := d }
  | .pass => { p with keyPass := d }
  | .fail => { p with keyFail := d }

/-- The press is taken where R149 lets it: PROMPT_ANSWER is queued and the head leaves. -/
def takeKey (k : AnswerKey) (s : State) : State :=
  match s.prs.queue with
  | e :: _ =>
    let answer : Payload := .promptAnswer e.station e.tag (keyAnswer k)
    if s.prs.role && decide (s.rbc.tx = .on) && s.prs.keySettle.isNone && answerFits e.kind (keyAnswer k) &&
        decide (requestResult answer s = .taken) then
      changeQueue (fun q => q.drop 1) (request answer s)
    else s
  | [] => s

/-- KEY_PRESS. Keys are read where the PANEL strap read set (R180). -/
def execKeyPress (key : AnswerKey) (s : State) : Answered :=
  if s.cml.strapPanel then
    let s := elapse ((keyOf s.prs key).timer.getD 0) s
    let s := s.withPins (setRaw (.key key) true s.pins)
    .next (takeKey key (s.withPrs (putKey key (.at true) s.prs)))
  else .next (s.withPins (setRaw (.key key) true s.pins))

/-- HALT_RESET_PRESS (R159). -/
def execHaltResetPress (s : State) : Answered :=
  if s.cml.strapPanel then
    let s := elapse (s.prs.keyHaltReset.timer.getD 0) s
    let s := s.withPins (setRaw .haltReset true s.pins)
    let s := s.withPrs { s.prs with keyHaltReset := .at true }
    if s.prs.role && !haltInput s then .next (request (.haltClear true) s) else .next s
  else .next (s.withPins (setRaw .haltReset true s.pins))

/-- A MESSAGES record at the PRS (R150). Where the PANEL strap read clear, R150 refuses 'every write' with RANGE; each record is refused so, and the write answers for its first record as R176 has it: PARTIAL with 0 stored and RANGE, the cursor set (DESIGN CHOICE, log entry 17). -/
def storeMessage (i : Nat) (bs : List Byte) (s : State) : State × Stored :=
  if h : i < 128 then
    if s.cml.strapPanel then
      match messageOf bs with
      | none => (s, .refused .range)
      | some text => (s.withPrs { s.prs with messages := vset s.prs.messages ⟨i, h⟩ text }, .plain)
    else (s, .refused .range)
  else (s, .refused .range)

end Sys2Proof.Machine
end

