-- ==== Sys2Proof/Machine/Recovery.lean ====
section
/-! DEFINITION. Leaving FAULT (9.5): FAULT_RESUME and FAULT_ABANDON. -/

namespace Sys2Proof.Machine

/-- The mode after FAULT is left (R166, R167). -/
def modeAfterFault (h : Hfu) : Mode := if haltFlag h then .halted else .normal

/-- The recoverable flag of the fault record. -/
def recoverable (h : Hfu) : Bool := (h.entry.map (·.recoverable)).getD false

/-- The fault record becomes CLOSED. Its recoverable flag stays as it was: the table of combinations in 9.6 has it 'set until resume', and R165 names halt entry in FAULT and LOCKOUT alone as what clears it (DESIGN CHOICE, log entry 31). -/
def closeRecord (s : State) : State := s.withHfu { s.hfu with recState := .closed }

/-- The mode and nest state, as the response gives them. -/
def modeAndNest (s : State) : Reply := okWith (leBytes 1 s.hfu.mode.code ++ leBytes 1 s.ncu.nest.code)

/-- Step 2 of R166: a held CLAMPING or UNCLAMPING is derived instead. -/
def resumeNest (s : State) : State :=
  if s.ncu.nest = .clamping ∨ s.ncu.nest = .unclamping then derive s else s

/-- Step 3 of R166: a claim held in POWER_WAIT is renewed (R54). A claim the RBC discards leaves the own claim state NONE, and the power-wait timer runs on. -/
def resumeSupply (s : State) : State :=
  if s.ncu.nest = .powerWait then
    let discarded := s.rbc.tx.off
    let s := makeClaim s
    if discarded then dropOwnClaim s else s
  else s

/-- Step 4 of R166: a FROZEN counter runs again from its value. -/
def resumeCounter (s : State) : State :=
  if s.ncu.nest = .powered ∧ s.hfu.mode = .normal ∧ s.stu.counter = .frozen then counterRun s else s

/-- The cause is VN_BUS_OFF. -/
def Cause.isBusOff : Cause → Bool
  | .vnBusOff _ _ => true
  | _ => false

/-- Step 5 of R166. -/
def resumePort (s : State) : State :=
  match s.hfu.entry with
  | some e => if e.cause.isBusOff then portRestart s else s
  | none => s

/-- Step 6 of R166: ARMED checks whose AFTER check is no longer armed start (R117). -/
def resumeChecks (s : State) : State :=
  settleWork (startOn s.rcu.timebase
    (fun d => decide (d.cond = 4) && !(s.cke.checks[Fin.ofNat 48 d.condArg]).state.isArmed) s)

/-- FAULT_RESUME at the HFU (R166). -/
def ownResume (_ : List Byte) (s : State) : State × Reply :=
  if s.hfu.mode ≠ .fault then refused .wrongState s
  else if recoverable s.hfu = false then refused .notRecoverable s
  else
    let s := resumeSupply (resumeNest (setMode (modeAfterFault s.hfu) s))
    let s := closeRecord (resumeChecks (resumePort (resumeCounter s)))
    (s, modeAndNest s)

/-- FAULT_RESUME. -/
def execFaultResume (p : Params) (s : State) : Answered :=
  .next (linkCommand 24 (exactly 0) .needed .notLockout p ownResume s)

/-- FAULT_ABANDON at the HFU (R167). -/
def ownAbandon (_ : List Byte) (s : State) : State × Reply :=
  if s.hfu.mode ≠ .fault then refused .wrongState s
  else
    let s := openBoth s
    let s := withdraw (s.withDsu { s.dsu with inrush := none, powerWait := none })
    let s := abortSet .fault (fun _ c => decide (c.state = .armed)) (stuSafe s)
    let s := closeRecord (derive s)
    let s := setMode (modeAfterFault s.hfu) s
    (s, modeAndNest s)

/-- FAULT_ABANDON. -/
def execFaultAbandon (p : Params) (s : State) : Answered :=
  .next (linkCommand 25 (exactly 0) .needed .notLockout p ownAbandon s)

end Sys2Proof.Machine
end

