-- ==== Sys2Proof/Machine/Tables.lean ====
section
/-! DEFINITION. The tables of 10.4 as the command link reads and writes them, the event queue's read, and the transactions that are no command. -/

namespace Sys2Proof.Machine

/-! ## Reading (R175, R177) -/

/-- The end of a table: the present length of RESULTS and RX_RING, and the capacity of any other. -/
def tableEnd (s : State) : Table → Nat
  | .results => s.cke.record.length
  | .rxRing => s.vnp.ring.length
  | t => t.capacity

/-- The result part that CHECKS shows for check `i`: an ended check's, from its entry of the test record (R115). -/
def resultOf (s : State) (i : CheckIdx) : Option ResultPart :=
  if (s.cke.checks[i]).state.isEnded then (s.cke.record.find? (fun e => e.check = i)).map (·.result) else none

/-- An entry of the peer view as it is read: the own entry is PRESENT from CONFIGURE on, with the station's current state (R16). -/
def peerRead (s : State) (i : StationIdx) : PeerEntry :=
  if configured s ∧ ownIdx s = some i then { present := true, beacon := some (ownBeacon s), silence := none }
  else s.rbc.peers[i]

/-- A record of CHANNELS: S0 to S7, and then the discrete group (4.1). -/
def channelRecord (s : State) (i : Nat) : List Byte :=
  if h : i < 8 then (s.stu.channels[i]).bytes (s.stu.next[i]).isSome (s.stu.second[i]).isSome
  else groupRecordBytes s.stu

/-- A record of PATTERN_GROUPS: groups, lines, measurement channels. -/
def patternRecord (s : State) (i : Nat) : List Byte :=
  if h : i < 4 then (s.rcu.groups[i]).bytes
  else if i < 20 then (s.rcu.lines[(Fin.ofNat 16 (i - 4) : LineIdx)]).bytes
  else measBytes s.rcu.meas[(Fin.ofNat 4 (i - 20) : MeasIdx)]

/-- The record of a table at an index below its end. -/
def tableRecord (s : State) (t : Table) (i : Nat) : List Byte :=
  match t with
  | .checks =>
    let c : CheckIdx := Fin.ofNat 48 i
    (s.cke.checks[c]).bytes c (fun w => (rawFigure c w s).1) (resultOf s c)
  | .txSlots => (s.vnp.slots[(Fin.ofNat 24 i : TxSlotIdx)]).recordBytes
  | .rxFilters => (s.vnp.filters[(Fin.ofNat 16 i : FilterIdx)]).recordBytes
  | .messages => messageBytes (s.prs.messages.toList.getD i [])
  | .patternGroups => patternRecord s i
  | .results => ((s.cke.record[i]?).map RecordEntry.bytes).getD []
  | .rxRing => ((s.vnp.ring[i]?).map RingEntry.bytes).getD []
  | .peers => (peerRead s (Fin.ofNat 12 i)).bytes
  | .board => boardBytes s.prs.board[(Fin.ofNat 12 i : StationIdx)]
  | .faultRecord => faultRecordBytes s.hfu
  | .channels => channelRecord s i

/-- A read of a table from an index, all records of one instant. -/
def readTable (t : Table) (first count : Nat) (s : State) : State × Reply :=
  readFrom t (tableRecord s t) (tableEnd s t) first count s

/-- The counts a read allows. -/
def countAllowed (n : Nat) : Bool := decide (1 ≤ n) && decide (n ≤ 8)

/-- READ_RECORDS at the CML (R175). -/
def ownReadRecords (bs : List Byte) (s : State) : State × Reply :=
  match Table.ofCode (field bs 0 1) with
  | none => refused .range s
  | some t =>
    if countAllowed (field bs 2 1) && decide (field bs 1 1 < t.capacity) then readTable t (field bs 1 1) (field bs 2 1) s
    else refused .range s

/-- READ_RECORDS. -/
def execReadRecords (p : Params) (s : State) : Answered :=
  .next (linkCommand 3 (exactly 3) .free .every p ownReadRecords s)

/-- READ_NEXT at the CML (R177). -/
def ownReadNext (bs : List Byte) (s : State) : State × Reply :=
  if countAllowed (field bs 0 1) then
    match s.cml.cursor with
    | none => refused .wrongState s
    | some (t, i) => readTable t i (field bs 0 1) s
  else refused .range s

/-- READ_NEXT. -/
def execReadNext (p : Params) (s : State) : Answered :=
  .next (linkCommand 4 (exactly 1) .free .every p ownReadNext s)

/-! ## Writing (R176) -/

/-- A record offered to its table's owner. A table that cannot be written refuses it. -/
def storeRecord (t : Table) (i : Nat) (bs : List Byte) (s : State) : State × Stored :=
  match t with
  | .checks => storeCheck i bs s
  | .txSlots => storeTxSlot i bs s
  | .rxFilters => storeRxFilter i bs s
  | .messages => storeMessage i bs s
  | .patternGroups => storePattern i bs s
  | .results => (s, .refused .range)
  | .rxRing => (s, .refused .range)
  | .peers => (s, .refused .range)
  | .board => (s, .refused .range)
  | .faultRecord => (s, .refused .range)
  | .channels => (s, .refused .range)

/-- WRITE_RECORDS at the CML (R176). -/
def ownWrite (bs : List Byte) (s : State) : State × Reply :=
  match Table.ofCode (field bs 0 1) with
  | none => refused .range s
  | some t =>
    match t.recordSize with
    | none => refused .range s
    | some size => offerRecords t (storeRecord t) (field bs 1 1) (recordsOf size (bs.drop 2)) 0 [] s

/-- WRITE_RECORDS on the link. -/
def writeCommand (p : Params) (s : State) : State :=
  linkCommand 5 (writeAllowed p.bytes) .needed .notLockout p ownWrite s

/-- WRITE_RECORDS of an unknown or read-only table. -/
def execWriteRecords (p : Params) (s : State) : Answered := .next (writeCommand p s)

/-- WRITE_RECORDS of CHECKS. -/
def execWriteChecks (p : Params) (s : State) : Answered := .next (writeCommand p s)

/-- WRITE_RECORDS of TX_SLOTS. -/
def execWriteTxSlots (p : Params) (s : State) : Answered := .next (writeCommand p s)

/-- WRITE_RECORDS of RX_FILTERS. -/
def execWriteRxFilters (p : Params) (s : State) : Answered := .next (writeCommand p s)

/-- WRITE_RECORDS of MESSAGES. -/
def execWriteMessages (p : Params) (s : State) : Answered := .next (writeCommand p s)

/-- WRITE_RECORDS of PATTERN_GROUPS from a group or a measurement channel. -/
def execWritePatternGroups (p : Params) (s : State) : Answered := .next (writeCommand p s)

/-- WRITE_RECORDS of PATTERN_GROUPS from a line. -/
def execWriteLineConditioning (p : Params) (s : State) : Answered := .next (writeCommand p s)

/-! ## READ_EVENTS (R179) -/

/-- READ_EVENTS at the CML: up to 8 of the oldest records leave the queue. The records are given without the two-byte length that R186 puts before each record returned by a read, which the model takes to speak of READ_RECORDS and READ_NEXT alone (DESIGN CHOICE, log entry 7). -/
def ownReadEvents (_ : List Byte) (s : State) : State × Reply :=
  let out := s.cml.events.take 8
  (s.withCml { s.cml with events := s.cml.events.drop 8 },
    okWith ((out.map EventRecord.bytes).flatten ++ leBytes 1 out.length))

/-- READ_EVENTS. -/
def execReadEvents (p : Params) (s : State) : Answered :=
  .next (linkCommand 23 (exactly 0) .free .every p ownReadEvents s)

/-! ## Transactions (R172 to R174) -/

/-- The bytes of the response buffer: status, command code, command sequence, data length, data; the empty form is all zeros (R174, R186). -/
def Cml.responseBytes (c : Cml) : List Byte :=
  match c.response with
  | some r => leBytes 1 r.status.code ++ [r.code] ++ leBytes 1 r.seq ++ leBytes 2 r.data.length ++ r.data
  | none => List.replicate 5 0

/-- RESPONSE_READ: bytes clocked beyond the data read as 0, and the unread mark is cleared. -/
def execResponseRead (clocked : Nat) (s : State) : Answered :=
  .next (s.withCml { s.cml with miso := padTo clocked s.cml.responseBytes, unread := false })

/-- UNKNOWN_COMMAND: test 1 of R173. -/
def execUnknownCommand (code : Byte) (_p : Params) (s : State) : Answered :=
  .next (placeResponse code (refuse .unknownCommand) (shiftStatus s))

/-- TRANSACTION_DISCARDED: buffer and sequence are left as they were; a command write has shifted out the link status byte. -/
def execTransactionDiscarded (bytes : List Byte) (s : State) : Answered :=
  if bytes.head? = some (0x5A : Byte) then .next (shiftStatus s) else .next s

end Sys2Proof.Machine
end

