-- ==== Sys2Proof/Machine/Status.lean ====
section
/-! DEFINITION. GET_STATUS (10.7): the status record, group by group in the order of R183. -/

namespace Sys2Proof.Machine

def linkBytes (s : State) : List Byte :=
  leBytes 1 s.cml.strapIndex.toNat ++ boolByte s.cml.strapPanel ++ boolByte (ownIdx s).isNone ++ boolByte (configured s) ++
  optBytes 17 (s.cml.config.map StationConfig.bytes) ++ leBytes 1 s.cml.events.length ++ leBytes 1 s.cml.cmdSeq

def busBytes (s : State) : List Byte := leBytes 1 s.rbc.tx.code ++ leBytes 1 s.rbc.sEff

/-- Mode, halt flag, the halt-source set with the own member in bit 12, and the reported state. -/
def modeBytes (s : State) : List Byte :=
  leBytes 1 s.hfu.mode.code ++ boolByte (haltFlag s.hfu) ++ bitSet 2 (s.hfu.sources.toList ++ [s.hfu.ownMark]) ++
  leBytes 1 (reportedState s).code

def faultBytes (s : State) : List Byte :=
  leBytes 1 s.hfu.recState.code ++ optBytes 1 (s.hfu.entry.map (fun e => leBytes 1 e.cause.code))

/-- The Nest group (R183). Its seven levels are seven items of one byte each, and not one set of levels with a bit for each member (DESIGN CHOICE, log entry 7). -/
def nestBytes (s : State) : List Byte :=
  let n := s.ncu
  leBytes 1 n.nest.code ++
  optBytes 4 (n.motion.map (fun m => leBytes 1 m.dir.code ++ leBytes 1 m.dir.code ++ leBytes 2 (msLeft m.left))) ++
  boolByte n.seatA.level ++ boolByte n.seatB.level ++ boolByte n.clampClosed.level ++ boolByte n.clampOpen.level ++
  boolByte n.haltIn.level ++ boolByte n.estop.level ++ boolByte (haltInput s)

def railBytes (s : State) (r : Rail) : List Byte :=
  boolByte (s.dsu.sw r).closed ++ boolByte (feedback s r) ++ boolByte (sourceGood s r) ++ boolByte (feeding s.dsu r)

/-- The Supply group. 'switch-over in flight' is given as its mark alone, without the fields of the record of 3.5 (DESIGN CHOICE, log entry 7). -/
def supplyBytes (s : State) : List Byte :=
  let d := s.dsu
  railBytes s .main ++ railBytes s .aux ++ boolByte d.switchOver.isSome ++ leBytes 1 d.ownClaim.code ++
  optBytes 1 (d.requested.map (fun r => leBytes 1 (railCode r))) ++ leBytes 2 (remainingInrush s) ++
  leBytes 3 d.latestSample ++ leBytes 1 d.claims.length ++
  optBytes 1 ((ownIdx s).bind (fun i => (claimPos d.claims i).map (leBytes 1))) ++
  leBytes 1 (min d.claims.length s.rbc.sEff)

def stimulusBytes (s : State) : List Byte :=
  leBytes 4 s.stu.frame.toNat ++ leBytes 1 s.stu.counter.code ++ boolByte s.stu.hold

def networkBytes (s : State) : List Byte := leBytes 1 s.vnp.port.code ++ leBytes 2 s.vnp.tec ++ leBytes 1 s.vnp.recv

def captureBytes (s : State) : List Byte :=
  leBytes 4 s.rcu.timebase.toNat ++
  ((List.finRange 4).map (fun m =>
    optBytes 1 ((s.rcu.meas[m]).map (fun l => leBytes 1 l.holder.val)) ++ leBytes 1 (waitList s m).length)).flatten

def checksBytes (s : State) : List Byte :=
  leBytes 1 s.cke.record.length ++ (countVerdicts s.cke.record).bytes ++ leBytes 1 (verdictCode s.cke.verdict) ++
  leBytes 1 s.cke.serial ++ boolByte s.cke.retained

def slotBytes (p : PromptSlot) : List Byte :=
  boolByte p.holder.isSome ++ leBytes 1 ((p.holder.map (·.val)).getD 0) ++ leBytes 1 p.kind.code ++ boolByte p.urgent ++
  leBytes 1 p.message ++ leBytes 1 p.tag.val ++ leBytes 1 p.duration ++
  optBytes 3 (p.answer.map (fun t => leBytes 3 (msLeft t)))

def promptBytes (s : State) : List Byte :=
  let p := s.prs
  leBytes 1 (match p.slot with | none => 0 | some x => if x.answer.isSome then 2 else 1) ++
  optBytes 11 (p.slot.map slotBytes) ++ boolByte ((p.slot.map (·.shown)).getD false) ++ leBytes 1 p.tagCounter.val ++
  optBytes 1 (p.closedTag.map (fun t => leBytes 1 t.val)) ++
  optBytes 2 (if s.cml.strapPanel then some (leBytes 1 p.queue.length ++ boolByte p.role) else none)

/-- The status record (R183). -/
def statusRecord (s : State) : List Byte :=
  linkBytes s ++ busBytes s ++ modeBytes s ++ faultBytes s ++ nestBytes s ++ supplyBytes s ++ stimulusBytes s ++
  networkBytes s ++ captureBytes s ++ checksBytes s ++ promptBytes s

/-- GET_STATUS at the CML. -/
def ownGetStatus (_ : List Byte) (s : State) : State × Reply := (s, okWith (statusRecord s))

/-- GET_STATUS. -/
def execGetStatus (p : Params) (s : State) : Answered :=
  .next (linkCommand 2 (exactly 0) .free .every p ownGetStatus s)

end Sys2Proof.Machine
end

