-- ==== Sys2Proof/Machine/Setup.lean ====
section
/-! DEFINITION. The two resets (the reset rule of each chapter) and CONFIGURE (10.6). -/

namespace Sys2Proof.Machine

/-! ## Resets -/

/-- POWER_ON_RESET: every block is at its state after reset, with the straps and raw levels of these pins. -/
def execPowerOnReset (pins : Pins) (s : State) : Answered := .next ((State.ofPins pins).withPending s.pending)

/-- The fault record's state across the reset line (R171). -/
def RecordState.retain : RecordState → RecordState
  | .none => .none
  | _ => .retained

/-- What the CKE keeps across the reset line (R136). -/
def retainChecks (old fresh : Cke) : Cke :=
  { fresh with record := old.record, verdict := old.verdict, serial := old.serial, retained := true }

/-- What the HFU keeps across the reset line (R171). -/
def retainRecord (old fresh : Hfu) : Hfu := { fresh with recState := old.recState.retain, entry := old.entry }

/-- RESET_LINE: as a power-on reset, with the test record, the last verdict and serial, and the fault record kept. -/
def execResetLine (pins : Pins) (s : State) : Answered :=
  let f := State.ofPins pins
  .next (((f.withCke (retainChecks s.cke f.cke)).withHfu (retainRecord s.hfu f.hfu)).withPending s.pending)

/-! ## CONFIGURE (R181, R182) -/

/-- The RBC's step: the transmitter starts to listen, the peer view is set up, S_EFF is computed (R13, R16, R18). -/
def configureBus (s : State) : State :=
  let start := decide (s.rbc.tx = .unconfigured)
  recomputeSEff (s.withRbc { s.rbc with
    tx := if start then .listening else s.rbc.tx
    listenTimer := if start then some Config.listenTicks else s.rbc.listenTimer
    peers := Vector.replicate 12 PeerEntry.absent })

/-- The DSU's step: the claim list is empty, and the senses are judged from now on (R38, R39). -/
def configureSupply (s : State) : State :=
  judgeMismatch .aux (judgeMismatch .main (s.withDsu { s.dsu with claims := [] }))

/-- The CKE's step (R136). -/
def configureChecks (s : State) : State :=
  s.withCke { s.cke with record := [], verdict := none, serial := 0, retained := false, armSeq := 0 }

/-- The PRS's step (R137, R151). -/
def configurePrompts (s : State) : State :=
  s.withPrs { s.prs with tagCounter := 0, closedTag := none, queue := [], role := s.cml.strapPanel, yielded := false }

/-- The HFU's step: the record becomes NONE, a set halt flag takes halt entry, and an active halt input queues a HALT (R155, R157, R171). -/
def configureHalt (s : State) : State :=
  let s := s.withHfu { s.hfu with recState := .none, entry := none }
  let s := if haltFlag s.hfu then haltEntry s else s
  if haltInput s then request .halt s else s

/-- Every block takes its configuration step (R182). -/
def configureAll (c : StationConfig) (s : State) : State :=
  let s := derive (configureBus (s.withCml { s.cml with config := some c }))
  let s := configureSupply s
  let s := s.withStu { s.stu with discretes := c.safePattern }
  configureHalt (configurePrompts (configureChecks s))

/-- CONFIGURE at the CML (R181). -/
def ownConfigure (bs : List Byte) (s : State) : State × Reply :=
  match configOf bs with
  | none => refused .range s
  | some (c, adjusted) => (configureAll c s, okIf adjusted c.bytes)

/-- CONFIGURE. -/
def execConfigure (p : Params) (s : State) : Answered :=
  .next (linkCommand 1 (exactly 19) .once .every p ownConfigure s)

end Sys2Proof.Machine
end

