-- ==== Sys2Proof/Machine/Dispatch.lean ====
section
/-! DEFINITION. The dispatch of the commands to their meanings, one arm per row of spec/opcode_table.json. -/

namespace Sys2Proof.Machine

def exec (i : Instr) (s : State) : Host.Outcome State Fault Refusal :=
  match i with
  | .powerOnReset pins => Sys2Proof.Machine.execPowerOnReset pins s
  | .resetLine pins => Sys2Proof.Machine.execResetLine pins s
  | .configure p => Sys2Proof.Machine.execConfigure p s
  | .getStatus p => Sys2Proof.Machine.execGetStatus p s
  | .readRecords p => Sys2Proof.Machine.execReadRecords p s
  | .readNext p => Sys2Proof.Machine.execReadNext p s
  | .writeRecords p => Sys2Proof.Machine.execWriteRecords p s
  | .writeChecks p => Sys2Proof.Machine.execWriteChecks p s
  | .writeTxSlots p => Sys2Proof.Machine.execWriteTxSlots p s
  | .writeRxFilters p => Sys2Proof.Machine.execWriteRxFilters p s
  | .writeMessages p => Sys2Proof.Machine.execWriteMessages p s
  | .writePatternGroups p => Sys2Proof.Machine.execWritePatternGroups p s
  | .writeLineConditioning p => Sys2Proof.Machine.execWriteLineConditioning p s
  | .clamp p => Sys2Proof.Machine.execClamp p s
  | .unclamp p => Sys2Proof.Machine.execUnclamp p s
  | .powerOn p => Sys2Proof.Machine.execPowerOn p s
  | .powerOff p => Sys2Proof.Machine.execPowerOff p s
  | .switchSource p => Sys2Proof.Machine.execSwitchSource p s
  | .setChannel p => Sys2Proof.Machine.execSetChannel p s
  | .setDiscretes p => Sys2Proof.Machine.execSetDiscretes p s
  | .holdStaging p => Sys2Proof.Machine.execHoldStaging p s
  | .releaseStaging p => Sys2Proof.Machine.execReleaseStaging p s
  | .vnSendOnce p => Sys2Proof.Machine.execVnSendOnce p s
  | .clearPattern p => Sys2Proof.Machine.execClearPattern p s
  | .armChecks p => Sys2Proof.Machine.execArmChecks p s
  | .disarmChecks p => Sys2Proof.Machine.execDisarmChecks p s
  | .clearResults p => Sys2Proof.Machine.execClearResults p s
  | .publishResult p => Sys2Proof.Machine.execPublishResult p s
  | .prompt p => Sys2Proof.Machine.execPrompt p s
  | .cancelPrompt p => Sys2Proof.Machine.execCancelPrompt p s
  | .readEvents p => Sys2Proof.Machine.execReadEvents p s
  | .faultResume p => Sys2Proof.Machine.execFaultResume p s
  | .faultAbandon p => Sys2Proof.Machine.execFaultAbandon p s
  | .unknownCommand code p => Sys2Proof.Machine.execUnknownCommand code p s
  | .responseRead clocked => Sys2Proof.Machine.execResponseRead clocked s
  | .transactionDiscarded bytes => Sys2Proof.Machine.execTransactionDiscarded bytes s
  | .busIdle => Sys2Proof.Machine.execBusIdle s
  | .transmitStart => Sys2Proof.Machine.execTransmitStart s
  | .simultaneousIndexClash => Sys2Proof.Machine.execSimultaneousIndexClash s
  | .frameVetoed frame => Sys2Proof.Machine.execFrameVetoed s frame
  | .haltAccepted sender => Sys2Proof.Machine.execHaltAccepted sender s
  | .haltClearAccepted sender payload => Sys2Proof.Machine.execHaltClearAccepted sender payload s
  | .slotClaimAccepted sender payload => Sys2Proof.Machine.execSlotClaimAccepted sender payload s
  | .slotReleaseAccepted sender => Sys2Proof.Machine.execSlotReleaseAccepted sender s
  | .promptAnswerAccepted sender payload => Sys2Proof.Machine.execPromptAnswerAccepted sender payload s
  | .promptShowAccepted sender payload => Sys2Proof.Machine.execPromptShowAccepted sender payload s
  | .promptCancelAccepted sender payload => Sys2Proof.Machine.execPromptCancelAccepted sender payload s
  | .promptReqAccepted sender payload => Sys2Proof.Machine.execPromptReqAccepted sender payload s
  | .resultAccepted sender payload => Sys2Proof.Machine.execResultAccepted sender payload s
  | .beaconAccepted sender payload => Sys2Proof.Machine.execBeaconAccepted sender payload s
  | .outOfCodeFrameAccepted sender => Sys2Proof.Machine.execOutOfCodeFrameAccepted sender s
  | .listenTimerExpiry => Sys2Proof.Machine.execListenTimerExpiry s
  | .beaconTimerExpiry => Sys2Proof.Machine.execBeaconTimerExpiry s
  | .silenceTimerExpiry peer => Sys2Proof.Machine.execSilenceTimerExpiry peer s
  | .rawInputChange input level => Sys2Proof.Machine.execRawInputChange input level s
  | .seatDebouncedChange input level => Sys2Proof.Machine.execSeatDebouncedChange input level s
  | .clampClosedDebouncedChange level => Sys2Proof.Machine.execClampClosedDebouncedChange level s
  | .clampOpenDebouncedChange level => Sys2Proof.Machine.execClampOpenDebouncedChange level s
  | .haltInputChange input level => Sys2Proof.Machine.execHaltInputChange input level s
  | .keyPress key => Sys2Proof.Machine.execKeyPress key s
  | .haltResetPress => Sys2Proof.Machine.execHaltResetPress s
  | .motionTimerExpiry => Sys2Proof.Machine.execMotionTimerExpiry s
  | .transitionWindowExpiry rail => Sys2Proof.Machine.execTransitionWindowExpiry rail s
  | .switchFeedbackChange rail level => Sys2Proof.Machine.execSwitchFeedbackChange rail level s
  | .mismatchTimerExpiry rail => Sys2Proof.Machine.execMismatchTimerExpiry rail s
  | .sourceGoodChange rail level => Sys2Proof.Machine.execSourceGoodChange rail level s
  | .lossTimerExpiry rail => Sys2Proof.Machine.execLossTimerExpiry rail s
  | .currentSample reading => Sys2Proof.Machine.execCurrentSample reading s
  | .claimExpiry station => Sys2Proof.Machine.execClaimExpiry station s
  | .inrushWindowExpiry => Sys2Proof.Machine.execInrushWindowExpiry s
  | .powerWaitTimeout => Sys2Proof.Machine.execPowerWaitTimeout s
  | .overlapTimerExpiry => Sys2Proof.Machine.execOverlapTimerExpiry s
  | .confirmationTimerExpiry => Sys2Proof.Machine.execConfirmationTimerExpiry s
  | .frameBoundary => Sys2Proof.Machine.execFrameBoundary s
  | .periodEnd channel => Sys2Proof.Machine.execPeriodEnd channel s
  | .highPartEnd channel => Sys2Proof.Machine.execHighPartEnd channel s
  | .oneshotEnd channel => Sys2Proof.Machine.execOneshotEnd channel s
  | .vnDueTime slot => Sys2Proof.Machine.execVnDueTime slot s
  | .vnLineFree => Sys2Proof.Machine.execVnLineFree s
  | .vnAttemptEnd outcome => Sys2Proof.Machine.execVnAttemptEnd outcome s
  | .vnFrameReceived after frame => Sys2Proof.Machine.execVnFrameReceived after frame s
  | .vnReceiveError => Sys2Proof.Machine.execVnReceiveError s
  | .lineEdgeAccepted after lines => Sys2Proof.Machine.execLineEdgeAccepted after lines s
  | .channelEdge after channel => Sys2Proof.Machine.execChannelEdge after channel s
  | .settleTimerExpiry check => Sys2Proof.Machine.execSettleTimerExpiry check s
  | .deadlineExpiry check => Sys2Proof.Machine.execDeadlineExpiry check s
  | .windowClose check => Sys2Proof.Machine.execWindowClose check s
  | .answerTimerExpiry => Sys2Proof.Machine.execAnswerTimerExpiry s
  | .noticeTimerExpiry station => Sys2Proof.Machine.execNoticeTimerExpiry station s
  | .keySettleExpiry => Sys2Proof.Machine.execKeySettleExpiry s
  | .startBitSeen => Sys2Proof.Machine.execStartBitSeen s

end Sys2Proof.Machine
end

