-- ==== Sys2Proof/Machine/Step.lean ====
section
/-! DEFINITION. The step: the command at the front of the queue is taken; on an empty queue the station's own due event is taken, or one tick goes by. -/

namespace Sys2Proof.Machine

/-- An empty queue: the block takes its own event that is due, and otherwise lets one tick of 100 ns go by (log entry 1). -/
def idle (s : State) : Answered :=
  match nextDue s with
  | some c => exec c s
  | none => .next (elapse 1 s)

/-- One step. -/
def step (s : State) : Host.Outcome State Fault Refusal :=
  match s.pending with
  | [] => idle s
  | c :: rest => exec c (s.withPending rest)

/-- `s` with the command that a word spells at the front of its queue. -/
def State.withFetchWord (s : State) (nbits w : Nat) : State :=
  match decodeTableWord nbits w with
  | some c => s.withPending (c :: s.pending)
  | none => s

end Sys2Proof.Machine
end

