-- ==== Sys2Proof/Safety.lean ====
section
/-! DEFINITION. What counts as a safe run: no command stops the station, and the laws of the device that the manual states hold. Each law is a decidable predicate of a state; where a law is not kept by itself, the predicate holds what keeps it. -/

namespace Sys2Proof.Machine

/-- The command is taken: the block goes on. -/
def Completes (c : Instr) (s : State) : Prop := ∃ t, exec c s = .next t

/-- The outcome's next state, if it has one. -/
def nextOf (o : Answered) : Option State :=
  match o with
  | .next t => some t
  | .fault _ => none
  | .refused _ => none

/-- The law of R178: at most 32 records, and EVENTS_LOST only as the newest; the 32nd entry is a marker. -/
def eventsOk (q : List EventRecord) : Bool :=
  decide (q.length ≤ 32) && q.dropLast.all (fun r => !r.isLost) &&
    (decide (q.length < 32) || (q.getLast?.map EventRecord.isLost).getD false)

/-- The law of R44: the claim list holds no index twice and has at most 12 entries. -/
def claimsOk (cs : List ClaimEntry) : Bool := decide (cs.map (·.station)).Nodup && decide (cs.length ≤ 12)

/-- The law of R130: the test record holds each check index at most once, so it has at most 48 entries. -/
def recordOk (r : List RecordEntry) : Bool := decide (r.map (·.check)).Nodup && decide (r.length ≤ 48)

/-- The law of R130 with what keeps it: an armed check is not in the test record, and the armed checks are those with a run-time part (R115). -/
def recordInv (c : Cke) : Bool :=
  recordOk c.record &&
    (List.finRange 48).all (fun i =>
      if (c.checks[i]).state.isArmed then (c.checks[i]).run.isSome && c.record.all (fun e => decide (e.check ≠ i))
      else (c.checks[i]).run.isNone)

/-- The law of R120: a check that is OPEN and uses a measurement channel holds it, and a channel that is lent is held by such a check. -/
def lendLaw (s : State) : Bool :=
  (List.finRange 48).all (fun i =>
    let c := s.cke.checks[i]
    !(decide (c.state = .opened) && c.defn.kind.usesChannel) ||
      decide ((s.rcu.meas[c.defn.meas]).map (·.holder) = some i)) &&
  (List.finRange 4).all (fun m =>
    match s.rcu.meas[m] with
    | none => true
    | some l =>
      let c := s.cke.checks[l.holder]
      decide (c.state = .opened) && c.defn.kind.usesChannel && decide (c.defn.meas = m))

/-- The law of R144: the prompt queue holds at most one entry per station index, URGENT ahead of NORMAL. -/
def queueOk (q : List QueueEntry) : Bool :=
  decide (q.map (·.station)).Nodup && decide (q.Pairwise (fun a b => b.urgent = true → a.urgent = true))

/-- A supply switch is commanded CLOSED. -/
def anyClosed (d : Dsu) : Bool := d.main.closed || d.aux.closed

/-- The law of R37: a supply switch is closed only in POWERED, in NORMAL or under a contained fault entered from POWERED, with clamp-closed asserted and the halt-source set empty. -/
def supplyLaw (s : State) : Bool :=
  !anyClosed s.dsu ||
    (decide (s.ncu.nest = .powered) && s.ncu.clampClosed.level && !haltFlag s.hfu && configured s &&
      match s.hfu.mode, s.hfu.entry with
      | .normal, _ => true
      | .fault, some e => !e.cause.severe && decide (e.nest = .powered)
      | _, _ => false)

/-- The law of R52: both switches are commanded CLOSED together only while a switch-over is in flight. -/
def overlapLaw (d : Dsu) : Bool :=
  !(d.main.closed && d.aux.closed) ||
    match d.switchOver with
    | some x => decide (x.old ≠ x.target)
    | none => false

/-- The station mode follows its causes: an unconfigured station is NORMAL (R155), and a configured one that is NORMAL has an empty halt-source set (R160). -/
def modeLaw (s : State) : Bool :=
  if configured s then decide (s.hfu.mode ≠ .normal) || !haltFlag s.hfu else decide (s.hfu.mode = .normal)

/-- A clamp motion runs only in a configured station in NORMAL, while CLAMPING or UNCLAMPING (R25, R27, R34, R35). -/
def motionLaw (s : State) : Bool :=
  s.ncu.motion.isNone || (configured s && decide (s.hfu.mode = .normal) &&
    (decide (s.ncu.nest = .clamping) || decide (s.ncu.nest = .unclamping)))

/-- What keeps the laws of the supply: the law of the motion, and a held nest has its clamp closed unless a fault stands that cannot be resumed. -/
def nestLaw (s : State) : Bool :=
  motionLaw s &&
  (!configured s || !s.ncu.nest.held || s.ncu.clampClosed.level || decide (s.hfu.mode = .lockout) ||
    (decide (s.hfu.mode = .fault) && !recoverable s.hfu))

/-- An unconfigured station has its nest UNCONFIGURED (R36). -/
def unconfiguredLaw (s : State) : Bool := configured s || decide (s.ncu.nest = .unconfigured)

/-- The laws of the supply with what keeps them. -/
def supplyInv (s : State) : Bool := supplyLaw s && overlapLaw s.dsu && modeLaw s && nestLaw s && unconfiguredLaw s

/-- The command is one of the two resets. -/
def isReset (c : Instr) : Bool :=
  match c with
  | .powerOnReset _ => true
  | .resetLine _ => true
  | _ => false

/-- Every stimulus channel is IDLE with its staging slots empty, and the discrete outputs stand at SAFE_PATTERN, all zeros before CONFIGURE, with nothing staged (R72, R161). -/
def stimulusSafe (s : State) : Bool :=
  s.stu.channels.toList.all (fun c => decide (c.mode = .idle)) && decide (s.stu.discretes = (conf s).safePattern) &&
    s.stu.next.toList.all Option.isNone && s.stu.second.toList.all Option.isNone &&
    s.stu.groupNext.isNone && s.stu.groupSecond.isNone

/-- The station is held safe: not configured yet, HALTED, LOCKOUT, or FAULT with the halt-source set not empty (R161, R169). -/
def heldSafe (s : State) : Bool :=
  !configured s ||
    match s.hfu.mode with
    | .normal => false
    | .fault => haltFlag s.hfu
    | .halted => true
    | .lockout => true

/-- A station that is held safe has safe stimulus outputs and no armed check (R161, R168). -/
def haltLaw (s : State) : Bool :=
  !heldSafe s || (stimulusSafe s && s.cke.checks.toList.all (fun c => !c.state.isArmed))

/-- The law of R161: every stimulus channel is IDLE, the discrete outputs stand at SAFE_PATTERN (all zeros before CONFIGURE), and no check is OPEN. -/
def safeOutputs (s : State) : Bool :=
  s.stu.channels.toList.all (fun c => decide (c.mode = .idle)) && decide (s.stu.discretes = (conf s).safePattern) &&
    s.cke.checks.toList.all (fun c => decide (c.state ≠ .opened))

/-- What keeps `haltLaw`: outside NORMAL no check is SETTLING or OPEN (R161, R164), the frame counter runs only in a configured station in NORMAL with the nest POWERED (R73), and the nest of a station that is HALTED, or that FAULT_RESUME would make HALTED, is neither POWER_WAIT nor POWERED. -/
def haltKeeps (s : State) : Bool :=
  (decide (s.hfu.mode = .normal) ||
    s.cke.checks.toList.all (fun c => !c.state.isArmed || decide (c.state = .armed))) &&
  (decide (s.stu.counter ≠ .running) || (configured s && decide (s.hfu.mode = .normal) && decide (s.ncu.nest = .powered))) &&
  (!(decide (s.hfu.mode = .halted) || (decide (s.hfu.mode = .fault) && haltFlag s.hfu && recoverable s.hfu)) ||
    (decide (s.ncu.nest ≠ .powerWait) && decide (s.ncu.nest ≠ .powered)))

/-- Only an OPEN check has an open window (R122). -/
def windowLaw (c : Cke) : Bool :=
  c.checks.toList.all (fun k => decide (k.state = .opened) || (k.run.bind (·.window)).isNone)

/-- The law of a halted station with what keeps it. -/
def haltInv (s : State) : Bool :=
  haltLaw s && modeLaw s && haltKeeps s && motionLaw s && unconfiguredLaw s && recordInv s.cke && windowLaw s.cke

end Sys2Proof.Machine
end

