-- ==== Sys2Proof/WellFormed.lean ====
section
/-! DEFINITION. Which commands are well formed: the operands that their rows of the table can carry. A command that is not well formed still has a meaning; these are the conditions under which it stands for its row. -/

namespace Sys2Proof

/-- The parameter length is one byte (R173, R186). -/
def paramsOk (p : Params) : Bool := decide (p.len < 256)

/-- The payload of an accepted frame: the length of its kind, and values within their codes (R2, R185). -/
def payloadOk (k : Machine.FrameKind) (bytes : List Byte) : Bool :=
  decide (bytes.length = k.length) && (Machine.Payload.ofBytes k bytes).isSome

/-- A frame of the vehicle network (R77): the identifier in its format's range, a 4-bit length code, and as many bytes as it calls for. -/
def frameOk (f : VnFrame) : Bool :=
  decide (f.identifier < if f.extended then 2 ^ 29 else 2 ^ 11) && decide (f.lengthCode < 16) &&
    decide (f.data.length = if f.remote then 0 else min 8 f.lengthCode)

/-- The link discards these bytes (R172). -/
def discarded (bytes : List Byte) : Bool :=
  match bytes with
  | [] => true
  | b :: _ => if b = 0x5A then decide (bytes.length < 3) else decide (b ≠ 0xA5)

/-- The command's operands are ones its row can carry. -/
def WellFormed (i : Instr) : Bool :=
  match i with
  | .powerOnReset _ => true
  | .resetLine _ => true
  | .configure p => paramsOk p
  | .getStatus p => paramsOk p
  | .readRecords p => paramsOk p
  | .readNext p => paramsOk p
  | .writeRecords p => paramsOk p && !(decide (tableCode p ∈ [some 1, some 2, some 3, some 4, some 5]))
  | .writeChecks p => paramsOk p && decide (tableCode p = some 1)
  | .writeTxSlots p => paramsOk p && decide (tableCode p = some 2)
  | .writeRxFilters p => paramsOk p && decide (tableCode p = some 3)
  | .writeMessages p => paramsOk p && decide (tableCode p = some 4)
  | .writePatternGroups p => paramsOk p && decide (tableCode p = some 5) && !fromLine p
  | .writeLineConditioning p => paramsOk p && decide (tableCode p = some 5) && fromLine p
  | .clamp p => paramsOk p
  | .unclamp p => paramsOk p
  | .powerOn p => paramsOk p
  | .powerOff p => paramsOk p
  | .switchSource p => paramsOk p
  | .setChannel p => paramsOk p
  | .setDiscretes p => paramsOk p
  | .holdStaging p => paramsOk p
  | .releaseStaging p => paramsOk p
  | .vnSendOnce p => paramsOk p
  | .clearPattern p => paramsOk p
  | .armChecks p => paramsOk p
  | .disarmChecks p => paramsOk p
  | .clearResults p => paramsOk p
  | .publishResult p => paramsOk p
  | .prompt p => paramsOk p
  | .cancelPrompt p => paramsOk p
  | .readEvents p => paramsOk p
  | .faultResume p => paramsOk p
  | .faultAbandon p => paramsOk p
  | .unknownCommand code p => paramsOk p && !(decide (1 ≤ code.toNat) && decide (code.toNat ≤ 25))
  | .responseRead _ => true
  | .transactionDiscarded bytes => discarded bytes
  | .busIdle => true
  | .transmitStart => true
  | .simultaneousIndexClash => true
  | .frameVetoed f => decide (f.payload.length = f.header.toNat % 2 ^ 5)
  | .haltAccepted _ => true
  | .haltClearAccepted _ payload => payloadOk .haltClear payload
  | .slotClaimAccepted _ payload => payloadOk .slotClaim payload
  | .slotReleaseAccepted _ => true
  | .promptAnswerAccepted _ payload => payloadOk .promptAnswer payload
  | .promptShowAccepted _ payload => payloadOk .promptShow payload
  | .promptCancelAccepted _ payload => payloadOk .promptCancel payload
  | .promptReqAccepted _ payload => payloadOk .promptReq payload
  | .resultAccepted _ payload => payloadOk .result payload
  | .beaconAccepted _ payload => payloadOk .beacon payload
  | .outOfCodeFrameAccepted _ => true
  | .listenTimerExpiry => true
  | .beaconTimerExpiry => true
  | .silenceTimerExpiry _ => true
  | .rawInputChange _ _ => true
  | .seatDebouncedChange _ _ => true
  | .clampClosedDebouncedChange _ => true
  | .clampOpenDebouncedChange _ => true
  | .haltInputChange _ _ => true
  | .keyPress _ => true
  | .haltResetPress => true
  | .motionTimerExpiry => true
  | .transitionWindowExpiry _ => true
  | .switchFeedbackChange _ _ => true
  | .mismatchTimerExpiry _ => true
  | .sourceGoodChange _ _ => true
  | .lossTimerExpiry _ => true
  | .currentSample _ => true
  | .claimExpiry _ => true
  | .inrushWindowExpiry => true
  | .powerWaitTimeout => true
  | .overlapTimerExpiry => true
  | .confirmationTimerExpiry => true
  | .frameBoundary => true
  | .periodEnd _ => true
  | .highPartEnd _ => true
  | .oneshotEnd _ => true
  | .vnDueTime _ => true
  | .vnLineFree => true
  | .vnAttemptEnd _ => true
  | .vnFrameReceived _ frame => frameOk frame
  | .vnReceiveError => true
  | .lineEdgeAccepted _ lines => decide (lines ≠ 0)
  | .channelEdge _ _ => true
  | .settleTimerExpiry _ => true
  | .deadlineExpiry _ => true
  | .windowClose _ => true
  | .answerTimerExpiry => true
  | .noticeTimerExpiry _ => true
  | .keySettleExpiry => true
  | .startBitSeen => true

end Sys2Proof
end

