-- ==== Sys2Proof/Certificates/Slice0/Obligations.lean ====
section
/-! DEFINITION. The statements about the TS410 model. Each is a `def Obligations.<Name> : Prop`; the helpers before them say what a response does to a state, and which conditions a command meets. -/

namespace Sys2Proof.Machine

/-- The link status byte: the count of the event queue, and the unread mark in bit 7 (R172, R186). -/
def linkByte (s : State) : Byte := BitVec.ofNat 8 (s.cml.events.length % 64 + if s.cml.unread then 128 else 0)

/-- The state after a command write has been answered (R172 to R174): `s` is the state that the command met, `t` what its owner left, and the rest is the response in the buffer and the link status byte that was shifted out. That it is shifted out once, with the kind byte, is the model's choice (log entry 8). -/
def answered (code : Nat) (st : Status) (data : List Byte) (s t : State) : State :=
  { t with cml := { t.cml with
      response := some { status := st, code := BitVec.ofNat 8 code, seq := (s.cml.cmdSeq + 1) % 256, data := data }
      unread := true, cmdSeq := (s.cml.cmdSeq + 1) % 256
      miso := [linkByte s] } }

/-- The outcome of a command write as `answered` gives it, but for how often the link status byte is shifted out: what the rules say without the model's choice of log entry 8. -/
def answersAs (o : Answered) (code : Nat) (st : Status) (data : List Byte) (s t : State) : Prop :=
  ∃ (u : State) (bytes : List Byte), u = answered code st data s t ∧ bytes.head? = some (linkByte s) ∧
    o = .next { u with cml := { u.cml with miso := bytes } }

/-- CONFIGURE has been taken and the mode is NORMAL. -/
def ready (s : State) : Prop := configured s = true ∧ s.hfu.mode = .normal

/-- The parameters of a command write whose bytes were all clocked. -/
def params (bs : List Byte) : Params := { len := bs.length, bytes := bs }

/-- What the command table (10.3), the layouts (11.4) and R173 give a link command: its code, its allowed lengths, whether it is passed before CONFIGURE, whether it is CONFIGURE itself, and the modes it is passed in. -/
structure LinkRow where
  code    : Nat
  allowed : Nat → Bool
  early   : Bool
  once    : Bool
  modes   : List Mode

/-- Every mode. -/
def allModes : List Mode := [.normal, .halted, .fault, .lockout]

/-- The lengths WRITE_RECORDS allows: two header bytes and 1 to 8 whole records of the named table, or any length that holds the header where the table code is unknown or read only; the parameter length byte allows 250 bytes. -/
def writeLengths (bs : List Byte) (n : Nat) : Bool :=
  let header := decide (2 ≤ n) && decide (n ≤ 250)
  match bs.head? with
  | none => header
  | some b =>
    match (Table.ofCode b.toNat).bind Table.recordSize with
    | none => header
    | some size => header && (List.range 8).any (fun k => decide (n = 2 + (k + 1) * size))

/-- The row of a write of table records. -/
def writeRow (p : Params) : LinkRow × Params :=
  ({ code := 5, allowed := writeLengths p.bytes, early := false, once := false, modes := [.normal, .halted, .fault] }, p)

/-- A row passed in NORMAL and HALTED after CONFIGURE. -/
def plainRow (code n : Nat) (p : Params) : LinkRow × Params :=
  ({ code := code, allowed := fun k => decide (k = n), early := false, once := false, modes := [.normal, .halted] }, p)

/-- The link command that a command is, with its parameters; UNKNOWN_COMMAND and the commands that are no command write have none. -/
def linkRow : Instr → Option (LinkRow × Params)
  | .configure p => some ({ code := 1, allowed := fun k => decide (k = 19), early := true, once := true, modes := allModes }, p)
  | .getStatus p => some ({ code := 2, allowed := fun k => decide (k = 0), early := true, once := false, modes := allModes }, p)
  | .readRecords p => some ({ code := 3, allowed := fun k => decide (k = 3), early := true, once := false, modes := allModes }, p)
  | .readNext p => some ({ code := 4, allowed := fun k => decide (k = 1), early := true, once := false, modes := allModes }, p)
  | .writeRecords p => some (writeRow p)
  | .writeChecks p => some (writeRow p)
  | .writeTxSlots p => some (writeRow p)
  | .writeRxFilters p => some (writeRow p)
  | .writeMessages p => some (writeRow p)
  | .writePatternGroups p => some (writeRow p)
  | .writeLineConditioning p => some (writeRow p)
  | .clamp p => some (plainRow 6 0 p)
  | .unclamp p => some (plainRow 7 0 p)
  | .powerOn p => some (plainRow 8 1 p)
  | .powerOff p => some (plainRow 9 0 p)
  | .switchSource p => some (plainRow 10 1 p)
  | .setChannel p => some (plainRow 11 25 p)
  | .setDiscretes p => some (plainRow 12 5 p)
  | .holdStaging p => some (plainRow 13 0 p)
  | .releaseStaging p => some (plainRow 14 0 p)
  | .vnSendOnce p => some (plainRow 15 1 p)
  | .clearPattern p => some (plainRow 16 1 p)
  | .armChecks p => some (plainRow 17 6 p)
  | .disarmChecks p => some (plainRow 18 6 p)
  | .clearResults p => some (plainRow 19 0 p)
  | .publishResult p => some (plainRow 20 0 p)
  | .prompt p => some (plainRow 21 4 p)
  | .cancelPrompt p => some (plainRow 22 0 p)
  | .readEvents p => some ({ code := 23, allowed := fun k => decide (k = 0), early := true, once := false, modes := allModes }, p)
  | .faultResume p =>
    some ({ code := 24, allowed := fun k => decide (k = 0), early := false, once := false, modes := [.normal, .halted, .fault] }, p)
  | .faultAbandon p =>
    some ({ code := 25, allowed := fun k => decide (k = 0), early := false, once := false, modes := [.normal, .halted, .fault] }, p)
  | _ => none

/-- A write of a table that cannot be written, with more parameters than the 250 of 10.1: test 2 of R173 passes any length that holds the header, and which of the two governs is the model's choice (log entry 17). -/
def lengthOpen (r : LinkRow) (p : Params) : Prop :=
  r.code = 5 ∧ p.bytes.length = p.len ∧ 250 < p.len ∧ (Table.ofCode (p.bytes.getD 0 0).toNat).bind Table.recordSize = none

/-- Tests 2 to 4 of R173: the refusal of the first that applies. -/
def firstRefusal (r : LinkRow) (p : Params) (s : State) : Option Status :=
  if p.bytes.length ≠ p.len ∨ r.allowed p.len = false then some .lengthError
  else if r.once = true ∧ configured s = true then some .alreadyConfigured
  else if r.early = false ∧ configured s = false then some .notConfigured
  else if s.hfu.mode ∈ r.modes then none
  else some .wrongState

/-- A payload whose values lie within their codes (11.1): what a station may send. -/
def payloadInCode : Payload → Bool
  | .slotClaim t => decide (20 ≤ t) && decide (t ≤ 2000)
  | .promptReq k _ m _ d =>
    decide (m < 256) && (if k = .notice then decide (1 ≤ d) && decide (d ≤ 30) else decide (d = 0))
  | .result n _ c =>
    decide (n < 256) && decide (c.pass ≤ 48) && decide (c.marginal ≤ 48) && decide (c.fail ≤ 48) &&
      decide (c.invalid ≤ 48) && decide (c.aborted ≤ 48)
  | .beaconDue => false
  | .beacon b =>
    decide (b.remaining ≤ 2000) && decide (20 ≤ b.tInrush) && decide (b.tInrush ≤ 2000) && decide (1 ≤ b.sMax) &&
      decide (b.sMax ≤ 4) && decide (b.message < 256) && decide (b.serial < 256)
  | .halt => true
  | .haltClear _ => true
  | .slotRelease => true
  | .promptAnswer _ _ _ => true
  | .promptShow _ => true
  | .promptCancel _ => true

/-- The bound of a filter's identifier and mask (R93). -/
def filterBound : FilterFormat → Nat
  | .standard => 2048
  | .extended => 536870912
  | .off => 4294967296

/-- A signed 32-bit value. -/
def fitsS32 (x : Int) : Bool := decide (-2147483648 ≤ x) && decide (x ≤ 2147483647)

/-- Every field of a check definition fits its field of the written form (11.4). -/
def checkDefFits (d : CheckDef) : Bool :=
  [d.channel, d.line, d.edge, d.filter, d.group, d.rxFilter, d.start, d.width, d.message, d.cond, d.samples, d.trackCh].all
    (fun n => decide (n < 256)) &&
  [d.settle, d.window, d.deadline, d.m, d.d, d.pctLo, d.pctHi].all (fun n => decide (n < 65536)) &&
  decide (d.theta < 16777216) && decide (d.condArg < 4294967296) &&
  [d.o, d.limLo, d.limHi, d.guard].all fitsS32

/-- The ten parameters lie in their ranges (R181). -/
def configInRange (c : StationConfig) : Bool :=
  decide (1 ≤ c.sMax) && decide (c.sMax ≤ 4) && decide (20 ≤ c.tInrush) && decide (c.tInrush ≤ 2000) &&
  decide (1 ≤ c.iInrush) && decide (c.iInrush ≤ 5000) && decide (1 ≤ c.iRun) && decide (c.iRun ≤ 5000) &&
  decide (1 ≤ c.tripDelay) && decide (c.tripDelay ≤ 50) && decide (500 ≤ c.clampLimit) && decide (c.clampLimit ≤ 5000) &&
  decide (1 ≤ c.frameMs) && decide (c.frameMs ≤ 100) && decide (1 ≤ c.promptTime) && decide (c.promptTime ≤ 600) &&
  (decide (c.bitRate = 125) || decide (c.bitRate = 250) || decide (c.bitRate = 500))

/-- The debounce state of a raw input; an observation line has none. -/
def debounceOf (input : RawInput) (s : State) : Option Debounced :=
  match input with
  | .seat .seatA => some s.ncu.seatA
  | .seat .seatB => some s.ncu.seatB
  | .clampClosed => some s.ncu.clampClosed
  | .clampOpen => some s.ncu.clampOpen
  | .halt .haltIn => some s.ncu.haltIn
  | .halt .estop => some s.ncu.estop
  | .key .ok => some s.prs.keyOk
  | .key .pass => some s.prs.keyPass
  | .key .fail => some s.prs.keyFail
  | .haltReset => some s.prs.keyHaltReset
  | .line _ => none

/-- The debounce times of 2.1 and 8.3 in ticks of 100 ns: 50 ms for a seat sensor, 20 ms for a clamp sensor and a key, 10 ms for a halt input. -/
def debounceTicks : RawInput → Nat
  | .seat _ => 500000
  | .clampClosed => 200000
  | .clampOpen => 200000
  | .halt _ => 100000
  | .key _ => 200000
  | .haltReset => 200000
  | .line _ => 0


/-- No check is ARMED, SETTLING or OPEN. -/
def noChecks (s : State) : Prop := ∀ i : CheckIdx, (s.cke.checks[i]).state.isArmed = false

/-- A staging slot with a newer channel update merged into it: a field of the newer one replaces the slot's, any other stays (R68). -/
def stagedWith (slot : Option ChannelUpdate) (u : ChannelUpdate) : Option ChannelUpdate :=
  match slot with
  | none => some u
  | some o => some
    { mode := if u.mode.isSome then u.mode else o.mode, freq := if u.freq.isSome then u.freq else o.freq
      duty := if u.duty.isSome then u.duty else o.duty, count := if u.count.isSome then u.count else o.count
      width := if u.width.isSome then u.width else o.width, value := if u.value.isSome then u.value else o.value
      slew := if u.slew.isSome then u.slew else o.slew, link := if u.link.isSome then u.link else o.link }

/-- The discrete slot with a newer update merged into it: the union of the masks, the newer value where both set a bit (R68). -/
def stagedDiscretes (slot : Option DiscreteUpdate) (m v : BitVec 16) : Option DiscreteUpdate :=
  match slot with
  | none => some { mask := m, values := v }
  | some o => some { mask := o.mask ||| m, values := (o.values &&& ~~~m) ||| (v &&& m) }

/-- The period, high time, realized frequency and realized duty of a waveform of requested frequency `f` (above 0) and duty `d` (R58, R59). -/
def waveFigures (f d : Nat) : Nat × Nat × Nat × Nat :=
  let p := min 100000000 (max 500 ((2 * 1000000000 + f) / (2 * f)))
  let h := if d = 0 then 0 else if 10000 ≤ d then p else min (p - 1) (max 1 ((2 * (p * d) + 10000) / 20000))
  (p, h, (2 * 1000000000 + p) / (2 * p), if d = 0 then 0 else if 10000 ≤ d then 10000 else (2 * (h * 10000) + p) / (2 * p))

/-- A channel's realized state is that of a waveform of requested frequency `f` and duty `d`; a frequency of 0 gives no period. -/
def realizedWave (c : Channel) (f d : Nat) : Prop :=
  if f = 0 then c.figures = none ∧ c.realFreq = 0 ∧ c.realDuty = 0 ∧ c.realValue = 0
  else
    let w := waveFigures f d
    c.figures = some (w.1, w.2.1) ∧ c.realFreq = w.2.2.1 ∧ c.realDuty = w.2.2.2 ∧ c.realValue = w.2.2.1

/-- A channel's realized state follows its mode (R57). -/
def realizedByMode (c : Channel) : Prop :=
  match c.mode with
  | .idle => c.figures = none ∧ c.realFreq = 0 ∧ c.realDuty = 0 ∧ c.realValue = 0
  | .freq => realizedWave c c.workFreq 5000
  | .pwm => realizedWave c c.freq c.duty
  | .pulse => realizedWave c c.freq c.duty
  | .oneshot => c.figures = none ∧ c.realFreq = 0 ∧ c.realDuty = 0 ∧ c.realValue = c.width
  | .value => c.figures = none ∧ c.realFreq = 0 ∧ c.realDuty = 0 ∧ c.realValue = c.workValue

/-- The stored parameters of a channel after an update: the fields present replace them (R69). -/
def storedParams (old new : Channel) (u : ChannelUpdate) : Prop :=
  new.mode = u.mode.getD old.mode ∧ new.freq = u.freq.getD old.freq ∧ new.duty = u.duty.getD old.duty ∧
  new.count = u.count.getD old.count ∧ new.width = u.width.getD old.width ∧ new.value = u.value.getD old.value ∧
  new.slew = u.slew.getD old.slew ∧ new.link = u.link.getD old.link

/-- The pin of a channel: low while it is held by its gate, and otherwise as its generator calls for. -/
def pinLevel (c : Channel) : Bool :=
  if c.gated then false
  else match c.drive with
    | .off => false
    | .wave _ _ _ level => level
    | .shot _ => true

/-- Every channel from S1 on is held exactly while its link is on and the pin of the channel before it is low (R64). -/
def gatesJudged (cs : Vector Channel 8) : Prop :=
  ∀ j k : ChannelIdx, j.val = k.val + 1 → (cs[j]).gated = ((cs[j]).link && !pinLevel cs[k])

/-- One ramp step of a working point `w` toward `target` (R63). -/
def rampNat (w target slew : Nat) : Nat := if w < target then w + min (target - w) slew else w - min (w - target) slew

/-- One ramp step of a signed working point. -/
def rampInt (w target : Int) (slew : Nat) : Int :=
  if w < target then w + min (target - w) slew else w - min (w - target) slew

/-- A slot with a new instance (R88): its encoded value and the next count are placed in the payload, and the next count advances modulo its width. -/
def builtInstance (v : VnSlot) (e : Option Int) : VnSlot :=
  let x := match v.bound, e with
    | some f, some n => placeBound v.payload f n
    | _, _ => v.payload
  match v.counter with
  | some (start, width) =>
    { v with inst := .pending (placeField x false start width v.nextCount), nextCount := (v.nextCount + 1) % 2 ^ width }
  | none => { v with inst := .pending x }

/-- A slot whose bound field is encoded from realized value `r`, with the encoded value (R86): round(r · M / D) + O clamped to the field's range, and FIELD_CLAMPED as the clamp acted. -/
def encodedSlot (v : VnSlot) (r : Int) : VnSlot × Option Int :=
  match v.bound with
  | none => (v, none)
  | some f =>
    let raw := roundHalfAway (r * f.m) f.d + f.o
    let lo : Int := if f.signed then -(2 ^ (f.width - 1)) else 0
    let hi : Int := if f.signed then 2 ^ (f.width - 1) - 1 else 2 ^ f.width - 1
    let n := max lo (min hi raw)
    ({ v with lastEnc := n, clamped := decide (n ≠ raw) }, some n)

/-- A slot in which an instance falls due (R88, R89): without one a new instance is formed; a PENDING one has its bound field refreshed and keeps its count; one on the line gets a held refresh. -/
def dueSlot (v : VnSlot) (r : Int) : VnSlot :=
  let w := (encodedSlot v r).1
  let e := (encodedSlot v r).2
  match v.inst with
  | .none => builtInstance w e
  | .pending x => { w with inst := .pending (match v.bound, e with
      | some f, some n => placeBound x f n
      | _, _ => x) }
  | .onLine _ _ => { w with held := some e }

/-- The realized value of a slot's source channel. -/
def boundSource (s : State) (v : VnSlot) : Int :=
  match v.bound with
  | some f => (s.stu.channels[f.source]).realValue
  | none => 0

/-- The port is ACTIVE or PASSIVE. -/
def portLive (s : State) : Prop := s.vnp.port = .active ∨ s.vnp.port = .passive

/-- The port state after a change of TEC or REC, with TEC below 256 (R81): a change of state is posted. -/
def judgedPort (s : State) : State :=
  let new : PortState := if 128 ≤ s.vnp.tec ∨ 128 ≤ s.vnp.recv then .passive else .active
  if s.vnp.port = new then s
  else post (.vnStateChanged s.vnp.port new s.vnp.tec s.vnp.recv) { s with vnp := { s.vnp with port := new } }

/-- A pattern group matches a line event (R101): one of its terms is other than IGNORE; with a transition term every level term is true and every transition term accepted its edge in this event, and without one every level term is true and the mark was clear. -/
def groupMatches (g : Group) (changed : BitVec 16) (levels : LineIdx → Bool) : Bool :=
  let within := (List.finRange 16).all (fun i => match g.terms[i] with
    | .low => !levels i
    | .high => levels i
    | _ => true)
  let edges := (List.finRange 16).all (fun i => match g.terms[i] with
    | .rise => changed.getLsbD i.val && levels i
    | .fall => changed.getLsbD i.val && !levels i
    | .change => changed.getLsbD i.val
    | _ => true)
  let moves := (List.finRange 16).any (fun i =>
    decide (g.terms[i] = .rise) || decide (g.terms[i] = .fall) || decide (g.terms[i] = .change))
  (List.finRange 16).any (fun i => decide (g.terms[i] ≠ .ignore)) && within && (if moves then edges else !g.mark)

/-- A pattern group after a line event (R101 to R103): a match counts one, to no more than 16,777,215, and takes its stamps, in LATCHED mode with the first picture kept as the snapshot; the mark then shows whether every level term is true. -/
def groupAfter (g : Group) (changed : BitVec 16) (levels : LineIdx → Bool) (t : MatchStamp) : Group :=
  let within := (List.finRange 16).all (fun i => match g.terms[i] with
    | .low => !levels i
    | .high => levels i
    | _ => true)
  if (List.finRange 16).all (fun i => decide (g.terms[i] = .ignore)) then g
  else if groupMatches g changed levels then
    { g with mark := within, count := min (g.count + 1) 16777215, last := some t
             first := if g.first.isSome then g.first else some t
             snapshot := if g.latched && g.snapshot.isNone then some (BitVec.ofFnLE (fun i => levels i), t) else g.snapshot }
  else { g with mark := within }

/-- A check of this kind opens with neither a measurement channel nor the prompt slot (R118). -/
def opensAlone (k : CheckKind) : Bool :=
  decide (k = .level) || decide (k = .pattern) || decide (k = .vnField) || decide (k = .current)

/-- A check that settles does so without another's help: it has a settle time, or it opens alone. -/
def settlesPlainly (c : Check) : Prop := c.defn.settle ≠ 0 ∨ opensAlone c.defn.kind = true

/-- The TRACK reference a window of a definition takes as it opens (R122). -/
def openingRef (s : State) (d : CheckDef) : Option Int :=
  if d.track = true ∧ d.kind ≠ .operator then some (s.stu.channels[Fin.ofNat 8 d.trackCh]).realValue else none

/-- Nothing counted. -/
def nothingYet : RawFigure := { matchCount := 0, overrange := false, hit := none, sum := 0, number := 0 }

/-- A window that opens now (R122): it closes after W ms, that of an OPERATOR check by its prompt's outcome. -/
def windowNow (s : State) (d : CheckDef) : CheckWindow :=
  { openTick := s.rcu.timebase, left := if d.kind = .operator then none else some (d.window * 10000), ref := openingRef s d
    raw := nothingYet, spill := nothingYet, spillApply := false }

/-- A check whose first window, or next one after a disturbance, opens now (R119, R122). -/
def openedNow (s : State) (c : Check) : Check :=
  { c with state := .opened
           run := c.run.map (fun r => { r with settle := none, deadline := none, waiting := false
                                               window := some (windowNow s c.defn) }) }

/-- A check whose settle time starts now (R118): its timer runs at S, and with S of 0 it has ended at once, which opens a check that opens alone. -/
def settlingNow (s : State) (c : Check) : Check :=
  if c.defn.settle = 0 then openedNow s c
  else { c with state := .settling, run := c.run.map (fun r => { r with settle := some (c.defn.settle * 10000), waiting := false }) }

/-- A check that meets its start condition now (R117): it has the start stamps, a deadline that it holds runs, and its settle time starts. -/
def startedNow (s : State) (c : Check) : Check :=
  settlingNow s { c with run := c.run.map (fun r => { r with
    start := some { frame := s.stu.frame, tick := s.rcu.timebase }
    deadline := if c.defn.deadline = 0 then none else some (c.defn.deadline * 10000) }) }

/-- A check at an event that meets the start conditions which `p` names: an ARMED one starts in NORMAL, and any other stays (R117). -/
def startedWhere (s : State) (p : CheckDef → Prop) [DecidablePred p] (c : Check) : Check :=
  if s.hfu.mode = .normal ∧ c.state = .armed ∧ p c.defn then startedNow s c else c

/-- Every ARMED check with the start condition of this code settles plainly. -/
def startsPlainly (s : State) (cond : Nat) : Prop :=
  ∀ i : CheckIdx, (s.cke.checks[i]).state = .armed → (s.cke.checks[i]).defn.cond = cond → settlesPlainly s.cke.checks[i]

/-- The check waits for a resource of these kinds of check (R118). -/
def waitsAs (s : State) (p : CheckDef → Bool) (i : CheckIdx) : Bool :=
  let c := s.cke.checks[i]
  decide (c.state = .settling) && decide (c.run.map (·.waiting) = some true) && p c.defn

/-- The waiting check that is first in arming order (R116): by the arming sequence value, and then by the index. -/
def firstWaiting (s : State) (p : CheckDef → Bool) : Option CheckIdx :=
  let seq (i : CheckIdx) : Nat := ((s.cke.checks[i]).run.map (·.armSeq.toNat)).getD 0
  (List.finRange 48).find? (fun i => waitsAs s p i && (List.finRange 48).all (fun j =>
    !waitsAs s p j || decide (seq i < seq j) || (decide (seq i = seq j) && decide (i ≤ j))))

/-- The window a measurement channel opens at a stamp, with the channel at this level (R105, R106, R108). -/
def channelWindow (openTick : Stamp) (span : Nat) (level : Bool) : MeasWindow :=
  { openTick := openTick, span := span, openLevel := level, edgeSeen := false, first := none, last := openTick, n := 0
    h := 0, runHigh := 0, runTick := openTick, count := 0, reached := false, overrange := false }

/-- The lend of a channel to check `i` now, with its first window open (R104, R105, R120). -/
def lentNow (s : State) (i : CheckIdx) (d : CheckDef) : Lent :=
  let level := (s.pins.obs.getLsbD (d.line % 16)) != (s.rcu.lines[Fin.ofNat 16 d.line]).invert
  { holder := i, line := Fin.ofNat 16 d.line, rise := decide (d.edge = 0), filter := d.filter
    counts := decide (d.kind = .count), theta := if d.kind = .count ∧ d.theta ≠ 0 then some d.theta else none
    level := level, run := 0, late := [], window := some (channelWindow s.rcu.timebase (d.window * 10000) level) }

/-- The kind uses a measurement channel. -/
def needsChannel (k : CheckKind) : Bool := decide (k = .freq) || decide (k = .duty) || decide (k = .count)

/-- A measurement channel's arbiter (R120): a FREE channel is lent to the first check of its wait list, which opens. -/
def lentOn (m : MeasIdx) (s : State) : State :=
  match s.rcu.meas[m], firstWaiting s (fun d => needsChannel d.kind && decide (Fin.ofNat 4 d.channel = m)) with
  | none, some i =>
    let c := s.cke.checks[i]
    { s with rcu := { s.rcu with meas := vset s.rcu.meas m (some (lentNow s i c.defn)) }
             cke := { s.cke with checks := vset s.cke.checks i (openedNow s c) } }
  | _, _ => s

/-- The check is of kind OPERATOR. -/
def asksOperator (d : CheckDef) : Bool := decide (d.kind = .operator)

/-- The prompt slot, where it is empty, is taken by the first OPERATOR check that waits for it, which opens (R125); its request is sent (R138). -/
def slotTaken (s : State) : State :=
  match s.prs.slot, firstWaiting s asksOperator with
  | none, some i =>
    let c := s.cke.checks[i]
    let asked : PromptSlot :=
      { holder := some i, kind := .judge, urgent := c.defn.urgent, message := c.defn.message, tag := s.prs.tagCounter
        duration := 0, answer := none, shown := false }
    let frame : Payload := .promptReq .judge c.defn.urgent c.defn.message s.prs.tagCounter 0
    { s with prs := { s.prs with slot := some asked, tagCounter := s.prs.tagCounter + 1 }
             rbc := s.rbc.setSlot .promptReq ((s.rbc.slot .promptReq).replaceWith frame)
             cke := { s.cke with checks := vset s.cke.checks i (openedNow s c) } }
  | _, _ => s

/-- A slot that comes free can be handed on: the transmitter takes requests, or no OPERATOR check waits. -/
def slotPasses (s : State) : Prop := s.rbc.tx.off = false ∨ ∀ i : CheckIdx, waitsAs s asksOperator i = false

/-- The effective K (R113). -/
def kOf (d : CheckDef) : Nat := if d.kind = .operator then 1 else d.samples

/-- The samples that a check has taken. -/
def taken (c : Check) : List Sample := (c.run.map (·.samples)).getD []

/-- The test-record entry of a check that ends DONE now with these samples (R115, R129). -/
def doneEntry (s : State) (i : CheckIdx) (samples : List Sample) (extra : Flags) : RecordEntry :=
  let d := (s.cke.checks[i]).defn
  { check := i, kind := d.kind
    result := resultPart (kOf d) samples (aggregateVerdict (kOf d) samples) none extra s.stu.frame s.rcu.timebase }

/-- Check `i` ends DONE with these samples (R129, R130, R117): its entry joins the test record, CHECK_DONE is posted, and the checks that wait AFTER it start. The channel it may hold is left as it is. -/
def endedNow (s : State) (i : CheckIdx) (samples : List Sample) (extra : Flags) : State :=
  let after (j : CheckIdx) : Check :=
    if j = i then { (s.cke.checks[j]) with state := .done, run := none }
    else startedWhere s (fun d => d.cond = 4 ∧ d.condArg = i.val) s.cke.checks[j]
  post (.checkDone i (aggregateVerdict (kOf (s.cke.checks[i]).defn) samples) (validEngs samples).length)
    { s with cke := { s.cke with checks := Vector.ofFn after, record := s.cke.record ++ [doneEntry s i samples extra] } }

/-- An apply event disturbs the open window of this check (R124). -/
def disturbs (c : Check) : Bool :=
  decide (c.state = .opened) && !c.defn.tolerate && !asksOperator c.defn && (c.run.bind (·.window)).isSome

/-- The samples of a disturbed check (R124). -/
def disturbedSamples (c : Check) : List Sample :=
  taken c ++ [{ verdict := .invalid, eng := none, flags := { Flags.none with disturbed := true } }]

/-- A disturbed window holds the last sample of its check (R124). -/
def disturbedOut (c : Check) : Bool := disturbs c && decide (kOf c.defn ≤ (disturbedSamples c).length)

/-- A check after an apply event (R118, R124): a SETTLING one settles again from the start; a disturbed one ends at its K-th sample, and otherwise settles again without its window. -/
def disturbedCheck (s : State) (c : Check) : Check :=
  if c.state = .settling then settlingNow s c
  else if disturbs c = false then c
  else if disturbedOut c = true then { c with state := .done, run := none }
  else settlingNow s { c with run := c.run.map (fun r => { r with samples := disturbedSamples c, window := none }) }

/-- The station after an apply event at the CKE (R118, R124): the checks change as `disturbedCheck` states, a disturbed check's channel is free, those that end do so in ascending index, and the checks that wait AFTER them start. -/
def applied (s : State) : State :=
  let out := (List.finRange 48).filter (fun i => disturbedOut s.cke.checks[i])
  let after (c : Check) : Check :=
    startedWhere s (fun d => d.cond = 4 ∧ ∃ i ∈ out, d.condArg = i.val) (disturbedCheck s c)
  let done (i : CheckIdx) : Event :=
    let samples := disturbedSamples s.cke.checks[i]
    .checkDone i (aggregateVerdict (kOf (s.cke.checks[i]).defn) samples) (validEngs samples).length
  { s with
    cke := { s.cke with
      checks := vmap after s.cke.checks
      record := s.cke.record ++ out.map (fun i => doneEntry s i (disturbedSamples s.cke.checks[i]) Flags.none) }
    rcu := { s.rcu with meas := vmap (fun x => x.filter (fun l => !disturbs s.cke.checks[l.holder])) s.rcu.meas }
    cml := { s.cml with events := out.foldl (fun q i => postTo q { event := done i, frame := s.stu.frame }) s.cml.events } }

/-- The checks that an apply event reaches settle plainly, no close of a window is due, and the channels keep their law (R120). -/
def applyPlain (s : State) : Prop :=
  lendLaw s = true ∧ startsPlainly s 4 ∧
  ∀ i : CheckIdx, ((s.cke.checks[i]).state = .settling ∨ disturbs s.cke.checks[i] = true → settlesPlainly s.cke.checks[i]) ∧
    (s.cke.checks[i]).run.bind (fun r => r.window.bind (·.left)) ≠ some 0

/-- A check with a figure handed to its open window; one handed when the close is due belongs to the next window (R105, R123). -/
def handed (f : RawFigure → RawFigure) (c : Check) : Check :=
  { c with run := c.run.map (fun r => { r with window := r.window.map (fun w =>
    if w.left = some 0 then { w with spill := f w.spill } else { w with raw := f w.raw }) }) }

/-- One match more in a running figure (R123). -/
def oneMatch (f : RawFigure) : RawFigure :=
  if f.matchCount < 16777215 then { f with matchCount := f.matchCount + 1 } else { f with overrange := true }

/-- The raw figure of a window at its close, with the flags of its source (R107 to R110, R123); `m` is the window of the channel the check holds. -/
def closingFigure (s : State) (d : CheckDef) (w : CheckWindow) (m : MeasWindow) : Int × Flags :=
  let time := (m.last - m.first.getD 0).toNat
  let base : Flags := { Flags.none with overrange := m.overrange }
  let nothing : Flags := { Flags.none with noSignal := true }
  match d.kind with
  | .freq => if m.n = 0 then (0, { base with noSignal := true }) else (((2 * (m.n * 1000000000) + time) / (2 * time) : Nat), base)
  | .duty =>
    if m.n ≠ 0 then (((2 * (m.h * 10000) + time) / (2 * time) : Nat), base)
    else if m.edgeSeen then (0, { base with noSignal := true })
    else (if m.openLevel then 10000 else 0, { base with static := true })
  | .count => (m.count, base)
  | .level => (if (s.rcu.lines[Fin.ofNat 16 d.line]).level then 1 else 0, Flags.none)
  | .pattern => (w.raw.matchCount, { Flags.none with overrange := w.raw.overrange })
  | .vnField =>
    match w.raw.hit with
    | some h =>
      if fieldFits d.big d.start d.width h.data.length then (readField h.data d.big d.signed d.start d.width, Flags.none)
      else (0, nothing)
    | none => (0, nothing)
  | .current =>
    if w.raw.number = 0 then (0, nothing) else (((2 * w.raw.sum + w.raw.number) / (2 * w.raw.number) : Nat), Flags.none)
  | .none => (0, Flags.none)
  | .operator => (0, Flags.none)

/-- Check `i` is in the set that 6 bytes mark, bit 0 of the first byte for C0 (R116, R186). -/
def marked (bs : List Byte) (i : CheckIdx) : Bool := (bs.getD (i.val / 8) 0).getLsbD (i.val % 8)

/-- A queue with the notice timers left out. -/
def bareQueue (q : List QueueEntry) : List QueueEntry := q.map (fun e => { e with notice := none })

/-- The head's station and tag. -/
def headOf (q : List QueueEntry) : Option (StationIdx × Tag) :=
  match q with
  | [] => none
  | e :: _ => some (e.station, e.tag)

/-- The panel's state after its queue has changed to `q`, the notice timers apart: a change of the head queues a PROMPT_SHOW and starts the key settle time at 500 ms, and any other change does neither (R148); a NOTICE at the head has its timer running (R146). `e` is the state before. -/
def queueChanged (e t : State) (q : List QueueEntry) : Prop :=
  bareQueue t.prs.queue = bareQueue q ∧
  (∀ x ∈ t.prs.queue.head?, x.kind = .notice → x.notice.isSome = true) ∧
  (headOf q = headOf e.prs.queue → t.prs.keySettle = e.prs.keySettle ∧ t.rbc.slots = e.rbc.slots) ∧
  (headOf q ≠ headOf e.prs.queue → t.prs.keySettle = some 5000000 ∧
    t.rbc.slots = (e.rbc.request (.promptShow (headOf q))).1.slots)

/-- A frame with payload `p` reaches the station from station `i`: a PRESENT peer, or the station itself, whose slot of that kind is IN_FLIGHT with `p` and holds neither a companion nor a successor. -/
def heardFrom (s : State) (i : StationIdx) (p : Payload) : Prop :=
  (ownIdx s ≠ some i ∧ (s.rbc.peers[i]).present = true) ∨
  (ownIdx s = some i ∧ s.rbc.onLine = some p.kind ∧ ∃ a, s.rbc.slot p.kind = .inFlight p a none false)

/-- The slot that an own frame with payload `p` was sent from is EMPTY once the frame is accepted (R7); a peer's frame leaves the slots as they are. -/
def slotSettled (s : State) (i : StationIdx) (p : Payload) : State :=
  if ownIdx s = some i then { s with rbc := s.rbc.setSlot p.kind .empty } else s

/-- Two consecutive parameter bytes, the low one first. -/
def wordAt (bs : List Byte) (i : Nat) : Nat := (bs.getD i 0).toNat + 256 * (bs.getD (i + 1) 0).toNat

/-- CONFIGURE's mask marks parameter `n` present. -/
def givenParam (bs : List Byte) (n : Nat) : Bool := (bs.getD (n / 8) 0).getLsbD (n % 8)

/-- A parameter as R181 stores it: the given value clamped to its range, or the default where it is absent. -/
def storedParam (bs : List Byte) (n dflt lo hi given : Nat) : Nat :=
  if givenParam bs n then max lo (min hi given) else dflt

/-- The configuration that 19 parameter bytes store (R181, 11.4). -/
def configAsked (bs : List Byte) : StationConfig :=
  let rate := wordAt bs 17
  { sMax := storedParam bs 0 2 1 4 (bs.getD 2 0).toNat, tInrush := storedParam bs 1 200 20 2000 (wordAt bs 3)
    iInrush := storedParam bs 2 1 1 5000 (wordAt bs 5), iRun := storedParam bs 3 1 1 5000 (wordAt bs 7)
    tripDelay := storedParam bs 4 1 1 50 (bs.getD 9 0).toNat, clampLimit := storedParam bs 5 3000 500 5000 (wordAt bs 10)
    frameMs := storedParam bs 6 10 1 100 (bs.getD 12 0).toNat, promptTime := storedParam bs 7 120 1 600 (wordAt bs 13)
    safePattern := (bs.getD 16 0) ++ (bs.getD 15 0)
    bitRate := if 375 ≤ rate then 500 else if 2 * rate < 375 then 125 else 250 }

/-- A given parameter is stored other than as given. -/
def configChanged (bs : List Byte) : Bool :=
  let c := configAsked bs
  let moved (n stored given : Nat) : Bool := givenParam bs n && decide (stored ≠ given)
  moved 0 c.sMax (bs.getD 2 0).toNat || moved 1 c.tInrush (wordAt bs 3) || moved 2 c.iInrush (wordAt bs 5) ||
    moved 3 c.iRun (wordAt bs 7) || moved 4 c.tripDelay (bs.getD 9 0).toNat || moved 5 c.clampLimit (wordAt bs 10) ||
    moved 6 c.frameMs (bs.getD 12 0).toNat || moved 7 c.promptTime (wordAt bs 13) || decide (c.bitRate ≠ wordAt bs 17)

/-- A number as `n` bytes, the least significant first (R186). -/
def numBytes (n x : Nat) : List Byte := (List.range n).map (fun k => BitVec.ofNat 8 (x / 256 ^ k))

/-- A mark as one byte, 1 when it is set (log entry 26). -/
def oneIf (b : Bool) : List Byte := numBytes 1 (if b then 1 else 0)

/-- An item of `n` bytes that may be absent: 1 and the item, or 0 and bytes that read 0 (R186). -/
def maybe (n : Nat) (x : Option (List Byte)) : List Byte :=
  match x with
  | some bs => 1 :: bs
  | none => List.replicate (n + 1) 0

/-- A code by the position of the value in the list that names it, from 0 (R186). -/
def placeIn {α : Type} [DecidableEq α] (xs : List α) (x : α) : List Byte := numBytes 1 (xs.findIdx (fun y => decide (y = x)))

/-- The nest states in the order of byte 0 of a BEACON (11.1). -/
def nestNames : List NestState := [.unconfigured, .empty, .seated, .clamping, .clamped, .powerWait, .powered, .unclamping]

/-- A reported state (R23): that of the nest in NORMAL, and else 8 HALTED, 9 FAULT or 10 LOCKOUT (11.1). -/
def reportedByte : Reported → List Byte
  | .nest n => placeIn nestNames n
  | .halted => [8]
  | .fault => [9]
  | .lockout => [10]

/-- The whole ms left on a timer, rounded down (R48 for the remaining inrush; log entry 7 for the other timers). -/
def wholeMs (ticks : Nat) : Nat := ticks / 10000

/-- The BEACON that the station assembles now (R15): the nest state in NORMAL and else the mode; the debounced HALT_IN, on a panel station or ESTOP; the panel role; the own claim state with the remaining inrush while it is GRANTED; T_INRUSH and S_MAX; the prompt slot, with message and tag 0 where it is empty; the last result. -/
def beaconAsked (s : State) : Beacon :=
  let c := conf s
  { reported := match s.hfu.mode with
      | .normal => .nest s.ncu.nest
      | .halted => .halted
      | .fault => .fault
      | .lockout => .lockout
    haltInput := if s.cml.strapPanel then s.ncu.haltIn.level || s.ncu.estop.level else s.ncu.haltIn.level
    panelRole := s.prs.role, slotState := s.dsu.ownClaim
    remaining := if s.dsu.ownClaim = .granted then (s.dsu.inrush.map wholeMs).getD 0 else 0
    tInrush := c.tInrush, sMax := c.sMax, serial := s.cke.serial, verdict := s.cke.verdict
    prompt := match s.prs.slot with
      | some p => some (p.kind, p.urgent)
      | none => none
    message := match s.prs.slot with
      | some p => p.message
      | none => 0
    tag := match s.prs.slot with
      | some p => p.tag
      | none => 0 }

/-- A cause's place in the table of R163, from 0; the first six are severe. -/
def causeNo : Cause → Nat
  | .overcurrent _ _ => 0
  | .supplyFeedback _ => 1
  | .supplyLost _ => 2
  | .seatLost => 3
  | .clampLost => 4
  | .indexClash _ => 5
  | .clampTimeout _ => 6
  | .rbAbandon _ => 7
  | .vnBusOff _ _ => 8

/-- A rail's code: 1 MAIN, 2 AUX (11.2). -/
def railByte : Rail → List Byte
  | .main => [1]
  | .aux => [2]

/-- The argument of a cause (R163), absent for SEAT_LOST and CLAMP_LOST; it is filled up to 6 bytes (log entry 7). -/
def causeArgument (c : Cause) : List Byte :=
  let filled (bs : List Byte) : List Byte := maybe 6 (some (bs ++ List.replicate (6 - bs.length) 0))
  match c with
  | .overcurrent x l => filled (numBytes 3 x ++ numBytes 3 l)
  | .supplyFeedback r => filled (railByte r)
  | .supplyLost r => filled (railByte r)
  | .seatLost => maybe 6 none
  | .clampLost => maybe 6 none
  | .indexClash q => filled (placeIn [false, true] q)
  | .clampTimeout d => filled (placeIn [.closing, .opening] d)
  | .rbAbandon k => filled (numBytes 1 k.code)
  | .vnBusOff t n => filled (numBytes 2 t ++ numBytes 1 n)

/-- The modes in their order. -/
def modeNames : List Mode := [.normal, .halted, .fault, .lockout]

/-- The states of the fault record in the order of R165. -/
def recordNames : List RecordState := [.none, .opened, .closed, .retained]

/-- The verdict of a station: 1 PASS, 2 MARGINAL, 3 FAIL, 4 INCOMPLETE, and 0 NONE (11.1). -/
def verdictByte : Option StationVerdict → List Byte
  | none => [0]
  | some v => numBytes 1 (1 + [StationVerdict.pass, .marginal, .fail, .incomplete].findIdx (fun y => decide (y = v)))

/-- A prompt kind: 1 ACTION, 2 JUDGE, 3 NOTICE (11.1). -/
def kindNo : PromptKind → Nat
  | .action => 1
  | .judge => 2
  | .notice => 3

/-- Five counts of verdicts. -/
def countBytes (c : Counts) : List Byte :=
  numBytes 1 c.pass ++ numBytes 1 c.marginal ++ numBytes 1 c.fail ++ numBytes 1 c.invalid ++ numBytes 1 c.aborted

/-- The record of FAULT_RECORD: the fields of R165 in their order, absent as a whole while there was no fault, and the record state. -/
def faultRecordAsked (s : State) : List Byte :=
  maybe 43 (s.hfu.entry.map (fun e =>
    numBytes 1 (causeNo e.cause) ++ oneIf (decide (6 ≤ causeNo e.cause)) ++ causeArgument e.cause ++
    placeIn modeNames e.entryMode ++ oneIf e.haltFlag ++ placeIn nestNames e.nest ++
    numBytes 1 ((if e.mainClosed then 1 else 0) + (if e.auxClosed then 2 else 0)) ++ numBytes 4 e.frame.toNat ++
    numBytes 3 e.sample ++ numBytes 4 e.tick.toNat ++ numBytes 1 e.aborted ++
    maybe 1 (e.lowest.map (fun i => numBytes 1 i.val)) ++ oneIf e.checkOpen ++ oneIf e.recoverable ++
    maybe 12 (e.second.map (fun x => numBytes 1 (causeNo x.1) ++ causeArgument x.1 ++ numBytes 4 x.2.toNat)) ++
    numBytes 1 e.later)) ++ placeIn recordNames s.hfu.recState

/-- A record of PEERS (1.9): presence, the last-beacon fields in the order of R15 where there are any, and the silence timer where it runs. The own entry of a configured station is PRESENT with its current state (R16). -/
def peerAsked (s : State) (i : StationIdx) : List Byte :=
  let own := decide (ownIdx s = some i) && configured s
  let e := s.rbc.peers[i]
  let slotByte (p : Option (PromptKind × Bool)) : List Byte :=
    match p with
    | some (k, u) => numBytes 1 (kindNo k + if u then 4 else 0)
    | none => [0]
  let fields (b : Beacon) : List Byte :=
    reportedByte b.reported ++ oneIf b.haltInput ++ oneIf b.panelRole ++
    placeIn [.none, .waiting, .granted] b.slotState ++ numBytes 2 b.remaining ++ numBytes 2 b.tInrush ++ numBytes 1 b.sMax ++
    slotByte b.prompt ++ numBytes 1 b.message ++ numBytes 1 b.tag.val ++ numBytes 1 b.serial ++ verdictByte b.verdict
  placeIn [true, false] (own || e.present) ++
  maybe 14 ((if own then some (beaconAsked s) else e.beacon).map fields) ++
  maybe 2 (if own then none else e.silence.map (fun t => numBytes 2 (wholeMs t)))

/-- A record of BOARD (R153): serial, verdict, counts or their absence, the source, RESULT or BEACON, and the STALE mark. -/
def boardAsked (x : Option BoardEntry) : List Byte :=
  maybe 10 (x.map (fun e => numBytes 1 e.serial ++ verdictByte (some e.verdict) ++ maybe 5 (e.counts.map countBytes) ++
    placeIn [true, false] e.fromResult ++ oneIf e.stale))

/-- The status record: the items of R183, group by group in its order. -/
def statusAsked (s : State) : List Byte :=
  let own := ownIdx s
  let link := numBytes 1 s.cml.strapIndex.toNat ++ oneIf s.cml.strapPanel ++ oneIf (decide (11 < s.cml.strapIndex.toNat)) ++
    oneIf s.cml.config.isSome ++
    maybe 17 (s.cml.config.map (fun c => numBytes 1 c.sMax ++ numBytes 2 c.tInrush ++ numBytes 2 c.iInrush ++
      numBytes 2 c.iRun ++ numBytes 1 c.tripDelay ++ numBytes 2 c.clampLimit ++ numBytes 1 c.frameMs ++
      numBytes 2 c.promptTime ++ numBytes 2 c.safePattern.toNat ++ numBytes 2 c.bitRate)) ++
    numBytes 1 s.cml.events.length ++ numBytes 1 s.cml.cmdSeq
  let bus := placeIn [.unconfigured, .listening, .on, .offClash, .offStrap] s.rbc.tx ++ numBytes 1 s.rbc.sEff
  let sources := (List.finRange 12).map (fun i => if s.hfu.sources[i] then 2 ^ i.val else 0)
  let mode := placeIn modeNames s.hfu.mode ++ oneIf (haltFlag s.hfu) ++
    numBytes 2 (sources.sum + if s.hfu.ownMark then 4096 else 0) ++ reportedByte (beaconAsked s).reported
  let fault := placeIn recordNames s.hfu.recState ++ maybe 1 (s.hfu.entry.map (fun e => numBytes 1 (causeNo e.cause)))
  let n := s.ncu
  let motion (m : ClampMotion) : List Byte :=
    placeIn [.closing, .opening] m.dir ++ placeIn [.closing, .opening] m.dir ++ numBytes 2 (wholeMs m.left)
  let nest := placeIn nestNames n.nest ++ maybe 4 (n.motion.map motion) ++ oneIf n.seatA.level ++ oneIf n.seatB.level ++
    oneIf n.clampClosed.level ++ oneIf n.clampOpen.level ++ oneIf n.haltIn.level ++ oneIf n.estop.level ++
    oneIf (beaconAsked s).haltInput
  let d := s.dsu
  let ahead := (d.claims.takeWhile (fun e => decide (own ≠ some e.station))).length
  let supply := oneIf d.main.closed ++ oneIf s.pins.mainFb ++ oneIf s.pins.mainOk ++ oneIf d.main.closed ++
    oneIf d.aux.closed ++ oneIf s.pins.auxFb ++ oneIf s.pins.auxOk ++ oneIf d.aux.closed ++ oneIf d.switchOver.isSome ++
    placeIn [.none, .waiting, .granted] d.ownClaim ++ maybe 1 (d.requested.map railByte) ++
    numBytes 2 (beaconAsked s).remaining ++ numBytes 3 d.latestSample ++ numBytes 1 d.claims.length ++
    maybe 1 (if ahead < d.claims.length then some (numBytes 1 ahead) else none) ++
    numBytes 1 (min d.claims.length s.rbc.sEff)
  let stimulus := numBytes 4 s.stu.frame.toNat ++ placeIn [.running, .frozen, .stopped] s.stu.counter ++ oneIf s.stu.hold
  let network := placeIn [.off, .active, .passive, .busOff] s.vnp.port ++ numBytes 2 s.vnp.tec ++ numBytes 1 s.vnp.recv
  let channel (m : MeasIdx) : List Byte :=
    maybe 1 (s.rcu.meas[m].map (fun l => numBytes 1 l.holder.val)) ++ numBytes 1 ((List.finRange 48).filter (waitsAs s
      (fun d => needsChannel d.kind && decide (Fin.ofNat 4 d.channel = m)))).length
  let capture := numBytes 4 s.rcu.timebase.toNat ++ channel 0 ++ channel 1 ++ channel 2 ++ channel 3
  let ended (v : Verdict) : List Byte :=
    numBytes 1 (s.cke.record.filter (fun e => decide (e.result.verdict = v))).length
  let checks := numBytes 1 s.cke.record.length ++ ended .pass ++ ended .marginal ++ ended .fail ++ ended .invalid ++
    ended .aborted ++ verdictByte s.cke.verdict ++ numBytes 1 s.cke.serial ++ oneIf s.cke.retained
  let p := s.prs
  let slot (x : PromptSlot) : List Byte :=
    (match x.holder with
      | some i => [1] ++ numBytes 1 i.val
      | none => [0, 0]) ++
    numBytes 1 (kindNo x.kind) ++ oneIf x.urgent ++ numBytes 1 x.message ++ numBytes 1 x.tag.val ++ numBytes 1 x.duration ++
    maybe 3 (x.answer.map (fun t => numBytes 3 (wholeMs t)))
  let slotState : Byte := match p.slot with
    | none => 0
    | some x => match x.answer with
      | none => 1
      | some _ => 2
  let shown := match p.slot with
    | none => false
    | some x => x.shown
  let prompt := [slotState] ++ maybe 11 (p.slot.map slot) ++ oneIf shown ++ numBytes 1 p.tagCounter.val ++
    maybe 1 (p.closedTag.map (fun t => numBytes 1 t.val)) ++
    maybe 2 (if s.cml.strapPanel then some (numBytes 1 p.queue.length ++ oneIf p.role) else none)
  link ++ bus ++ mode ++ fault ++ nest ++ supply ++ stimulus ++ network ++ capture ++ checks ++ prompt

/-- An unsigned field of `n` bytes at byte `i` of a record, the least significant byte first. -/
def numAt (rec : List Byte) (i n : Nat) : Nat := ((List.range n).map (fun k => (rec.getD (i + k) 0).toNat * 256 ^ k)).sum

/-- A signed field of 4 bytes at byte `i` of a record, in two's complement. -/
def intAt (rec : List Byte) (i : Nat) : Int :=
  if numAt rec i 4 < 2147483648 then (numAt rec i 4 : Int) else (numAt rec i 4 : Int) - 4294967296

/-- The check kinds in the order of their codes (11.4). -/
def kindNames : List CheckKind := [.none, .freq, .duty, .count, .level, .pattern, .vnField, .current, .operator]

/-- The definition that the 51 bytes of a CHECKS record write, with the kind of byte 0 (11.4). -/
def checkAsked (rec : List Byte) (kind : CheckKind) : CheckDef :=
  let b (i : Nat) : Nat := numAt rec i 1
  let bit (n : Nat) : Bool := (rec.getD 12 0).getLsbD n
  { kind := kind, channel := b 1, line := b 2, edge := b 3, filter := b 4, theta := numAt rec 5 3, group := b 8
    rxFilter := b 9, start := b 10, width := b 11, big := bit 0, signed := bit 1, tolerate := bit 2, urgent := bit 3
    track := bit 4, message := b 13, cond := b 14, condArg := numAt rec 15 4, settle := numAt rec 19 2
    window := numAt rec 21 2, samples := b 23, deadline := numAt rec 24 2, m := numAt rec 26 2, d := numAt rec 28 2
    o := intAt rec 30, limLo := intAt rec 34, limHi := intAt rec 38, pctLo := numAt rec 42 2, pctHi := numAt rec 44 2
    trackCh := b 46, guard := intAt rec 47 }

/-- The definition of check `i` lies in the ranges of R113 in every field that its kind and limit mode use (R114). -/
def checkAllowed (i : CheckIdx) (d : CheckDef) : Prop :=
  let lastByte := d.start / 8 + if d.width ≤ d.start % 8 + 1 then 0 else (d.width - (d.start % 8 + 1) + 7) / 8
  d.cond ≤ 4 ∧ (d.cond = 2 → d.condArg ≤ 3) ∧ (d.cond = 3 ∨ d.cond = 4 → d.condArg ≤ 47 ∧ d.condArg ≠ i.val) ∧
  (needsChannel d.kind = true → d.channel ≤ 3 ∧ d.edge ≤ 1 ∧ d.filter ≤ 255) ∧
  (needsChannel d.kind = true ∨ d.kind = .level → d.line ≤ 15) ∧ (d.kind = .count → d.theta ≤ 16777215) ∧
  (d.kind = .pattern → d.group ≤ 3) ∧
  (d.kind = .vnField → d.rxFilter ≤ 15 ∧ d.start ≤ 63 ∧ 1 ≤ d.width ∧ d.width ≤ 32 ∧
    (d.big = true → lastByte ≤ 7) ∧ (d.big = false → d.start + d.width ≤ 64)) ∧
  (d.kind ≠ .operator → d.m ≠ 0 ∧ d.d ≠ 0 ∧ -1000000 ≤ d.o ∧ d.o ≤ 1000000 ∧ 0 ≤ d.guard) ∧
  (d.kind ≠ .operator → d.track = false → d.limLo ≤ d.limHi) ∧
  (d.kind ≠ .operator → d.track = true → d.trackCh ≤ 7 ∧ 0 ≤ d.limLo ∧ 0 ≤ d.limHi ∧ d.pctLo ≤ 10000 ∧ d.pctHi ≤ 10000)

/-- The definition as it is stored, by the table of R114: W of 0 as 1 and above 10,000 as 10,000, K of 0 as 1 and above 8 as 8, S above 5000 as 5000, a deadline above 60,000 as 60,000, and an ABSOLUTE guard with 2G above H - L as half of H - L rounded down. OPERATOR uses neither W nor the guard. -/
def checkStored (d : CheckDef) : CheckDef :=
  let span := d.limHi - d.limLo
  { d with
    window := if d.kind = .operator then d.window else if d.window = 0 then 1 else if 10000 < d.window then 10000 else d.window
    samples := if d.samples = 0 then 1 else if 8 < d.samples then 8 else d.samples
    settle := if 5000 < d.settle then 5000 else d.settle
    deadline := if 60000 < d.deadline then 60000 else d.deadline
    guard := if d.kind ≠ .operator ∧ d.track = false ∧ span < 2 * d.guard then span / 2 else d.guard }

/-- The place of payload bit `x` in the order in which a field runs (R87): LITTLE runs upward, and BIG downward within each byte and then from bit 7 of the next byte. -/
def fieldPlace (big : Bool) (x : Nat) : Nat := if big then 8 * (x / 8) + (7 - x % 8) else x

/-- Payload bit `n` belongs to a field of width `w` at start bit `s` (R87). -/
def inField (big : Bool) (s w n : Nat) : Prop :=
  fieldPlace big s ≤ fieldPlace big n ∧ fieldPlace big n < fieldPlace big s + w

/-- A field lies wholly within the first `len` bytes (R83, R87). -/
def withinBytes (big : Bool) (s w len : Nat) : Prop := fieldPlace big s + w ≤ 8 * len

/-- The definition of a transmit slot lies in the ranges of R83. -/
def slotInRange (v : VnSlot) : Prop :=
  v.identifier ≤ (if v.extended = true then 536870911 else 2047) ∧ v.length ≤ 8 ∧
  (v.period = 0 ∨ (10 ≤ v.period ∧ v.period ≤ 10000)) ∧ v.phase ≤ v.period ∧
  (∀ f ∈ v.bound, f.m ≠ 0 ∧ f.d ≠ 0 ∧ 1 ≤ f.width ∧ f.width ≤ 32 ∧ f.start ≤ 63 ∧
    withinBytes f.big f.start f.width v.length) ∧
  (∀ c ∈ v.counter, 2 ≤ c.2 ∧ c.2 ≤ 8 ∧ c.1 ≤ 63 ∧ withinBytes false c.1 c.2 v.length) ∧
  (∀ f ∈ v.bound, ∀ c ∈ v.counter,
    ∀ n : Fin 64, ¬(inField f.big f.start f.width n.val ∧ inField false c.1 c.2 n.val))

/-- The slot that the 31 bytes of a TX_SLOTS record write (11.4), its run-time fields as R84 resets them. -/
def slotAsked (rec : List Byte) : VnSlot :=
  let b (i : Nat) : Nat := numAt rec i 1
  let bit (n : Nat) : Bool := (rec.getD 0 0).getLsbD n
  { enable := bit 0, extended := bit 1, identifier := numAt rec 1 4, length := b 5, payload := BitVec.ofNat 64 (numAt rec 6 8)
    period := numAt rec 14 2, phase := numAt rec 16 2
    bound := if bit 2 then
        some { source := Fin.ofNat 8 (b 18), start := b 19, width := b 20, big := bit 4, signed := bit 5, m := numAt rec 21 2
               d := numAt rec 23 2, o := intAt rec 25 }
      else none
    counter := if bit 3 then some (b 29, b 30) else none
    inst := .none, held := none, nextCount := 0, lastEnc := 0, clamped := false, sent := 0, due := none }

/-- A TX_SLOTS record is not refused (R83); a source channel above 7 is (log entry 19). -/
def slotAllowed (rec : List Byte) : Prop :=
  slotInRange (slotAsked rec) ∧ ((rec.getD 0 0).getLsbD 2 = true → numAt rec 18 1 ≤ 7)

/-- A slot's definition, its run-time fields as R84 resets them. -/
def slotDefinition (v : VnSlot) : VnSlot :=
  { v with inst := .none, held := none, nextCount := 0, lastEnc := 0, clamped := false, sent := 0, due := none }

/-- The terms of a pattern group in the order of their codes (11.4). -/
def termNames : List Term := [.ignore, .low, .high, .rise, .fall, .change]

/-- The terms that the 17 bytes of a pattern-group record write (11.4). -/
def termsAsked (rec : List Byte) : Vector Term 16 := Vector.ofFn (fun i => (termNames[numAt rec i.val 1]?).getD .ignore)

/-- Every term code and the mode code of a pattern-group record is known (R100). -/
def groupAllowed (rec : List Byte) : Prop := (∀ i : LineIdx, numAt rec i.val 1 ≤ 5) ∧ numAt rec 16 1 ≤ 1

/-- The modes of a timed output in the order of their codes (11.2). -/
def channelModes : List ChannelMode := [.idle, .freq, .pwm, .pulse, .oneshot, .value]

/-- SET_CHANNEL's mask marks field `n` present, in the order of 4.7. -/
def givenField (bs : List Byte) (n : Nat) : Bool := (bs.getD 2 0).getLsbD n

/-- The update that SET_CHANNEL's 25 bytes ask for, as R66 stores it: a duty above 10000 as 10000, a count of 0 as 1, a width of 0 as 1 and one above 100,000,000 as 100,000,000. -/
def updateAsked (bs : List Byte) : ChannelUpdate :=
  let duty := numAt bs 8 2
  let width := numAt bs 12 4
  { mode := if givenField bs 0 then channelModes[numAt bs 3 1]? else none
    freq := if givenField bs 1 then some (numAt bs 4 4) else none
    duty := if givenField bs 2 then some (if 10000 < duty then 10000 else duty) else none
    count := if givenField bs 3 then some (if numAt bs 10 2 = 0 then 1 else numAt bs 10 2) else none
    width := if givenField bs 4 then some (if width = 0 then 1 else if 100000000 < width then 100000000 else width) else none
    value := if givenField bs 5 then some (intAt bs 16) else none
    slew := if givenField bs 6 then some (numAt bs 20 4) else none
    link := if givenField bs 7 then some (decide (numAt bs 24 1 = 1)) else none }

/-- A present field of SET_CHANNEL is stored other than as given (R66). -/
def updateMoved (bs : List Byte) : Bool :=
  (givenField bs 2 && decide (10000 < numAt bs 8 2)) || (givenField bs 3 && decide (numAt bs 10 2 = 0)) ||
    (givenField bs 4 && (decide (numAt bs 12 4 = 0) || decide (100000000 < numAt bs 12 4)))

/-- SET_CHANNEL is not refused with RANGE (R66); a link byte above 1 is (log entry 18). -/
def updateAllowed (bs : List Byte) : Prop :=
  numAt bs 0 1 ≤ 7 ∧ numAt bs 1 1 ≤ 2 ∧ (givenField bs 0 = true → numAt bs 3 1 ≤ 5) ∧
  (givenField bs 0 = true → 6 ≤ numAt bs 0 1 → numAt bs 3 1 = 0 ∨ numAt bs 3 1 = 5) ∧
  (givenField bs 7 = true → numAt bs 24 1 ≤ 1) ∧
  (givenField bs 7 = true → numAt bs 24 1 = 1 → numAt bs 0 1 ≠ 0 ∧ numAt bs 0 1 ≤ 5)

/-- The timings in the order of their codes (11.2). -/
def timingNames : List Timing := [.now, .next, .second]

/-- SET_CHANNEL's 25 parameter bytes for an update (11.2); the fields that are not present read 0. -/
def updateBytes (i : ChannelIdx) (t : Timing) (u : ChannelUpdate) : List Byte :=
  let bit (b : Bool) (n : Nat) : Nat := if b then 2 ^ n else 0
  numBytes 1 i.val ++ placeIn timingNames t ++
  numBytes 1 (bit u.mode.isSome 0 + bit u.freq.isSome 1 + bit u.duty.isSome 2 + bit u.count.isSome 3 + bit u.width.isSome 4 +
    bit u.value.isSome 5 + bit u.slew.isSome 6 + bit u.link.isSome 7) ++
  placeIn channelModes (u.mode.getD .idle) ++ numBytes 4 (u.freq.getD 0) ++ numBytes 2 (u.duty.getD 0) ++
  numBytes 2 (u.count.getD 0) ++ numBytes 4 (u.width.getD 0) ++ numBytes 4 (u.value.getD 0 % 4294967296).toNat ++
  numBytes 4 (u.slew.getD 0) ++ oneIf (u.link.getD false)

/-- Every field of an update of channel `i` lies in its range (4.7, R66). -/
def updateInRange (i : ChannelIdx) (u : ChannelUpdate) : Prop :=
  (6 ≤ i.val → ∀ m ∈ u.mode, m = .idle ∨ m = .value) ∧ (u.link = some true → i.val ≠ 0 ∧ i.val ≤ 5) ∧
  u.freq.getD 0 < 4294967296 ∧ u.duty.getD 0 ≤ 10000 ∧ 1 ≤ u.count.getD 1 ∧ u.count.getD 1 ≤ 65535 ∧
  1 ≤ u.width.getD 1 ∧ u.width.getD 1 ≤ 100000000 ∧ fitsS32 (u.value.getD 0) = true ∧ u.slew.getD 0 < 4294967296

/-- The characters of a text. -/
def ascii (text : String) : List Byte := text.toList.map (fun c => BitVec.ofNat 8 c.toNat)

/-- A display line: a text in 40 characters, filled up with spaces (R147). -/
def lineOf (text : List Byte) : List Byte := (text ++ List.replicate 40 32).take 40

/-- The text of a message (R150): that of the message table, and MESSAGE with the number in three digits where the table holds none. -/
def textOf (s : State) (n : Nat) : List Byte :=
  let held : List Byte := if h : n < 128 then s.prs.messages[n] else []
  if held ≠ [] then held else ascii "MESSAGE " ++ [n / 100, n / 10 % 10, n % 10].map (fun k => BitVec.ofNat 8 (48 + k))

/-- The words of the board summary (R147): the entries not marked STALE, counted by verdict. -/
def summaryOf (s : State) : List Byte :=
  let count (v : StationVerdict) : String := toString (s.prs.board.toList.countP (fun x => match x with
    | some e => !e.stale && decide (e.verdict = v)
    | none => false))
  ascii ("PASS " ++ count .pass ++ " MARGINAL " ++ count .marginal ++ " FAIL " ++ count .fail ++ " INCOMPLETE " ++
    count .incomplete)

/-- S_EFF is the least of the own S_MAX and those of the PRESENT peers whose beacon is held (R18). -/
def leastLimit (s : State) : Prop :=
  let peer (i : StationIdx) (b : Beacon) : Prop :=
    ownIdx s ≠ some i ∧ (s.rbc.peers[i]).present = true ∧ (s.rbc.peers[i]).beacon = some b
  s.rbc.sEff ≤ (conf s).sMax ∧ (∀ i b, peer i b → s.rbc.sEff ≤ b.sMax) ∧
  (s.rbc.sEff = (conf s).sMax ∨ ∃ i b, peer i b ∧ s.rbc.sEff = b.sMax)

/-- What both resets leave (R19, R36, R55, R76, R95, R112, R136, R154, R156, R171, R180, R184), what the reset line retains apart. -/
def clearedBy (pins : Pins) (t : State) : Prop :=
  let halted := pins.haltIn || (pins.strapPanel && pins.estop)
  t.pins = pins ∧ t.cml.strapIndex = pins.strapIndex ∧ t.cml.strapPanel = pins.strapPanel ∧ t.cml.config = none ∧
  t.cml.response = none ∧ t.cml.unread = false ∧ t.cml.cmdSeq = 0 ∧ t.cml.cursor = none ∧ t.cml.events = [] ∧
  t.rbc.bus = .busy ∧ t.rbc.idleCount = 0 ∧ t.rbc.courtesy = false ∧
  t.rbc.tx = (if pins.strapIndex.toNat ≤ 11 then .unconfigured else .offStrap) ∧
  (∀ k : FrameKind, t.rbc.slot k = .empty) ∧ t.rbc.driven = none ∧ t.rbc.veto = false ∧ t.rbc.synced = false ∧ t.rbc.listenTimer = none ∧ t.rbc.beaconTimer = none ∧
  (∀ i : StationIdx, t.rbc.peers[i] = { present := false, beacon := none, silence := none }) ∧ t.rbc.sEff = 0 ∧
  t.ncu.nest = .unconfigured ∧ t.ncu.motion = none ∧ t.ncu.seatA = { level := pins.seatA, timer := none } ∧
  t.ncu.seatB = { level := pins.seatB, timer := none } ∧ t.ncu.clampClosed = { level := pins.clampClosed, timer := none } ∧
  t.ncu.clampOpen = { level := pins.clampOpen, timer := none } ∧ haltInput t = halted ∧
  anyClosed t.dsu = false ∧ t.dsu.latestSample = 0 ∧ t.dsu.overCount = 0 ∧ t.dsu.claims = [] ∧ t.dsu.ownClaim = .none ∧
  t.dsu.requested = none ∧ t.dsu.powerWait = none ∧ t.dsu.inrush = none ∧ t.dsu.switchOver = none ∧
  (∀ i : ChannelIdx, (t.stu.channels[i]).mode = .idle ∧ (t.stu.channels[i]).drive = .off ∧ t.stu.next[i] = none ∧
    t.stu.second[i] = none) ∧ t.stu.discretes = 0 ∧ t.stu.groupNext = none ∧ t.stu.groupSecond = none ∧
  t.stu.hold = false ∧ t.stu.frame = 0 ∧ t.stu.counter = .stopped ∧
  t.vnp.port = .off ∧ t.vnp.tec = 0 ∧ t.vnp.recv = 0 ∧ t.vnp.scheduler = false ∧ t.vnp.ring = [] ∧ t.vnp.nextSeq = 0 ∧
  (∀ i : TxSlotIdx, (t.vnp.slots[i]).enable = false ∧ (t.vnp.slots[i]).inst = .none) ∧
  (∀ i : FilterIdx, (t.vnp.filters[i]).format = .off ∧ (t.vnp.filters[i]).latest = none) ∧
  t.rcu.timebase = 0 ∧ (∀ i : LineIdx, t.rcu.lines[i] =
    { invert := false, filter := 0, level := pins.obs.getLsbD i.val, run := 0, lastEdge := none }) ∧
  (∀ g : GroupIdx, (∀ i : LineIdx, (t.rcu.groups[g]).terms[i] = .ignore) ∧ (t.rcu.groups[g]).count = 0 ∧
    (t.rcu.groups[g]).mark = false) ∧ (∀ m : MeasIdx, t.rcu.meas[m] = none) ∧
  (∀ i : CheckIdx, (t.cke.checks[i]).state = .idle ∧ (t.cke.checks[i]).defn.kind = .none ∧ (t.cke.checks[i]).run = none) ∧
  t.prs.slot = none ∧ t.prs.queue = [] ∧ t.prs.role = false ∧ t.prs.closedTag = none ∧
  (∀ i : Fin 128, t.prs.messages[i] = []) ∧ (∀ i : StationIdx, t.prs.board[i] = none) ∧
  t.hfu.mode = .normal ∧ haltFlag t.hfu = halted ∧ (∀ i : StationIdx, t.hfu.sources[i] = true → ownIdx t = some i)
end Sys2Proof.Machine

section
open Sys2Proof Sys2Proof.Machine

/-! ## The queue of commands -/

/-- A step takes the command at the front of the queue and runs exactly it, on the state that holds the rest of the queue. With an empty queue the station takes its own event that is due, and where none is due one tick of 100 ns goes by. This is the model's choice (log entry 1). -/
def Obligations.StepRunsTheFrontCommandOrIdles : Prop :=
  (∀ (c : Instr) (rest : List Instr) (s : State),
    step (s.withPending (c :: rest)) = exec c (s.withPending rest)) ∧
  (∀ s : State, s.pending = [] →
    (∀ c, nextDue s = some c → step s = exec c s) ∧ (nextDue s = none → step s = .next (elapse 1 s)))

/-- No command stops the station: each answers a next state, with the commands that wait left as they were. The clauses are the model's choice: that a command leaves the queue to the step (log entry 1), that operands which no row carries complete too (log entry 9), and that the waiting commands stand at both resets (log entry 25). -/
def Obligations.EveryCommandCompletesAndLeavesTheQueue : Prop :=
  ∀ (c : Instr) (s : State), Completes c s ∧ ∀ t, exec c s = .next t → t.pending = s.pending

/-- The stored configuration and the straps hold until the next reset (R180, R181). LOCKOUT is left by a reset alone (R169): any other command leaves a configured station in LOCKOUT, with every supply switch that was open still open. -/
def Obligations.OnlyAResetUndoesConfigureOrLockout : Prop :=
  (∀ (c : Instr) (s t : State), isReset c = false → configured s = true → exec c s = .next t →
    t.cml.config = s.cml.config ∧ t.cml.strapIndex = s.cml.strapIndex ∧ t.cml.strapPanel = s.cml.strapPanel) ∧
  (∀ (c : Instr) (s t : State), isReset c = false → configured s = true → s.hfu.mode = .lockout → exec c s = .next t →
    t.hfu.mode = .lockout ∧ (s.dsu.main.closed = false → t.dsu.main.closed = false) ∧
      (s.dsu.aux.closed = false → t.dsu.aux.closed = false))

/-! ## The laws of the device -/

/-- Every step keeps the law of the event queue (R178): at most 32 records, EVENTS_LOST only as the newest. -/
def Obligations.EveryStepKeepsTheEventQueueLaw : Prop :=
  ∀ s t : State, eventsOk s.cml.events = true → step s = .next t → eventsOk t.cml.events = true

/-- Every step keeps the law of the claim list (R44): no index twice, at most 12 entries. -/
def Obligations.EveryStepKeepsTheClaimListLaw : Prop :=
  ∀ s t : State, claimsOk s.dsu.claims = true → step s = .next t → claimsOk t.dsu.claims = true

/-- Every step keeps the law of the test record (R130), with what keeps it (7.2): an armed check is not in the record, and the armed checks are those with a run-time part (R115). -/
def Obligations.EveryStepKeepsTheTestRecordLaw : Prop :=
  ∀ s t : State, recordInv s.cke = true → step s = .next t → recordInv t.cke = true

/-- Every step keeps the law of the measurement channels (R120): an OPEN check that uses one holds it, and a lent one is held by such a check. -/
def Obligations.EveryStepKeepsTheLendLaw : Prop :=
  ∀ s t : State, lendLaw s = true → step s = .next t → lendLaw t = true

/-- Every step keeps the law of the panel's prompt queue (R144): one entry per station at most, URGENT ahead of NORMAL. -/
def Obligations.EveryStepKeepsThePromptQueueLaw : Prop :=
  ∀ s t : State, queueOk s.prs.queue = true → step s = .next t → queueOk t.prs.queue = true

/-- Every step keeps the laws of the supply (R37, R52) with what keeps them: a switch is closed only in POWERED with the clamp closed and no halt source, and both are closed only while a switch-over is in flight. What keeps them: the mode follows its causes, a motion runs only in NORMAL while CLAMPING or UNCLAMPING, a held nest has its clamp closed, and the nest is UNCONFIGURED before CONFIGURE (R36). -/
def Obligations.EveryStepKeepsTheSupplyLaw : Prop :=
  ∀ s t : State, supplyInv s = true → step s = .next t → supplyInv t = true

/-- Every step keeps the law of a halted station (R161, R168) with what keeps it: before CONFIGURE, while HALTED, in LOCKOUT, or in FAULT with a halt source, the stimulus stands at its safe outputs, nothing is staged and no check is armed. What keeps it: the mode follows its causes, a motion runs only in NORMAL, the nest is UNCONFIGURED before CONFIGURE (R36), the test record keeps its law (R130), and only an OPEN check has an open window (R122). Under it, a station whose halt-source set is not empty, or which is in LOCKOUT, has every channel IDLE, the discrete outputs at SAFE_PATTERN and no OPEN check. -/
def Obligations.EveryStepKeepsTheHaltLaw : Prop :=
  (∀ s t : State, haltInv s = true → step s = .next t → haltInv t = true) ∧
  (∀ s : State, haltInv s = true → (haltFlag s.hfu = true ∨ s.hfu.mode = .lockout) → safeOutputs s = true)

/-- The state right after reset, and the state after a power-on reset at any pin levels, meet every law above. -/
def Obligations.ResetMeetsEveryLaw : Prop :=
  ∀ (pins : Pins) (s t : State), t = State.reset ∨ exec (.powerOnReset pins) s = .next t →
    eventsOk t.cml.events = true ∧ claimsOk t.dsu.claims = true ∧ recordInv t.cke = true ∧ lendLaw t = true ∧
      queueOk t.prs.queue = true ∧ supplyInv t = true ∧ haltInv t = true

/-! ## The command link (10.1 to 10.5) -/

/-- A command write is judged by the tests of R173 in turn. A refusal at tests 2 to 4 changes nothing but the response; otherwise the owner's answer is placed, with the code as written and the next command sequence value, and the unread mark is set. An unknown code is refused before any other test. How often MISO shifts out the link status byte is left open, and so is the status of a write with 251 to 255 parameters to a table that cannot be written, which is refused in any case. -/
def Obligations.LinkTestsInTurn : Prop :=
  (∀ (c : Instr) (r : LinkRow) (p : Params) (s : State), linkRow c = some (r, p) →
    (∀ st, ¬lengthOpen r p → firstRefusal r p s = some st → answersAs (exec c s) r.code st [] s s) ∧
    (lengthOpen r p → ∃ st, answersAs (exec c s) r.code st [] s s) ∧
    (firstRefusal r p s = none → ∃ t st data, exec c s = .next t ∧ t.cml.unread = true ∧
      t.cml.cmdSeq = (s.cml.cmdSeq + 1) % 256 ∧
      t.cml.response = some { status := st, code := BitVec.ofNat 8 r.code, seq := (s.cml.cmdSeq + 1) % 256, data := data })) ∧
  (∀ (code : Byte) (p : Params) (s : State),
    answersAs (exec (.unknownCommand code p) s) code.toNat .unknownCommand [] s s)

/-- RESPONSE_READ shifts out the buffer, or the empty form of zeros, with zeros beyond the data, and clears the unread mark, and nothing else (R174, R186). A discarded transaction changes nothing but what is shifted out: the link status byte where its first byte is the write kind 90; otherwise nothing is shifted out and nothing changes (R172; log entry 8). GET_STATUS returns the items of R183 in their order and changes nothing but the response. READ_RECORDS and READ_NEXT return the records from the first index, or from the cursor, up to the count or the end of the table, and set the cursor behind the last one returned (R175, R177). A record of FAULT_RECORD holds the fields of R165, the argument of each cause behind its presence byte (R163, R186), a record of PEERS those of 1.9, with the own entry as R15 assembles it (R16), and a record of BOARD those of R153. The model's choices in it: what a discarded transaction shifts out, and the link status byte once for each (log entry 8), timers in whole ms, the switch-over as a mark, the seven levels as a byte each, the width of a cause's argument (log entry 7), and the codes that chapter 11 does not list and the coding of a mark (log entry 26). -/
def Obligations.ReadsReturnTheirRecords : Prop :=
  ((∀ (n : Nat) (s : State), exec (.responseRead n) s =
    .next { s with cml := { s.cml with
      unread := false
      miso := ((match s.cml.response with
        | some r => [BitVec.ofNat 8 r.status.code, r.code, BitVec.ofNat 8 r.seq, BitVec.ofNat 8 r.data.length,
            BitVec.ofNat 8 (r.data.length / 256)] ++ r.data
        | none => [0, 0, 0, 0, 0]) ++ List.replicate n 0).take n } }) ∧
  (∀ (bytes : List Byte) (s : State), exec (.transactionDiscarded bytes) s = .next (
    if bytes.head? = some 90 then
      { s with cml := { s.cml with miso := [linkByte s] } }
    else s))) ∧
  ((∀ s : State, exec (.getStatus (params [])) s = .next (answered 2 .ok (statusAsked s) s s)) ∧
  (∀ s : State, tableRecord s .faultRecord 0 = faultRecordAsked s ∧
    (∀ i : StationIdx, tableRecord s .peers i.val = peerAsked s i) ∧
    ∀ i : StationIdx, tableRecord s .board i.val = boardAsked s.prs.board[i]) ∧
  (∀ (s : State) (t : Table) (code first count : Byte), Table.ofCode code.toNat = some t → first.toNat < t.capacity →
    1 ≤ count.toNat → count.toNat ≤ 8 →
    let n := min count.toNat (tableEnd s t - first.toNat)
    let data := ((List.range n).map (fun k =>
      let r := tableRecord s t (first.toNat + k)
      leBytes 2 r.length ++ r)).flatten
    let after := { s with cml := { s.cml with cursor := some (t, first.toNat + n) } }
    exec (.readRecords (params [code, first, count])) s =
      .next (if n = count.toNat then answered 3 .ok data s after
             else answered 3 .truncated (data ++ [BitVec.ofNat 8 n]) s after)) ∧
  (∀ (s : State) (code first count : Byte),
    (match Table.ofCode code.toNat with
      | none => True
      | some t => t.capacity ≤ first.toNat ∨ count.toNat = 0 ∨ 8 < count.toNat) →
    exec (.readRecords (params [code, first, count])) s = .next (answered 3 .range [] s s)) ∧
  (∀ (s : State) (t : Table) (i : Nat) (count : Byte), s.cml.cursor = some (t, i) → 1 ≤ count.toNat → count.toNat ≤ 8 →
    let n := min count.toNat (tableEnd s t - i)
    let data := ((List.range n).map (fun k =>
      let r := tableRecord s t (i + k)
      leBytes 2 r.length ++ r)).flatten
    let after := { s with cml := { s.cml with cursor := some (t, i + n) } }
    exec (.readNext (params [count])) s =
      .next (if n = count.toNat then answered 4 .ok data s after
             else answered 4 .truncated (data ++ [BitVec.ofNat 8 n]) s after)) ∧
  (∀ (s : State) (count : Byte), s.cml.cursor = none → 1 ≤ count.toNat → count.toNat ≤ 8 →
    exec (.readNext (params [count])) s = .next (answered 4 .wrongState [] s s)))

/-- A posting reaches the queue as R178 states: it is appended while at most 30 records and no marker are held; the 32nd entry is a marker in its place; a marker that is held counts it, to no more than 65,535. ATTN is asserted after it. Nothing else changes. READ_EVENTS removes up to 8 of the oldest records and returns them, oldest first, with their number; ATTN is released where the queue is emptied (R179). The model's choices in it: the records without a length before each (log entry 7). That the link status byte is shifted out once is log entry 8. -/
def Obligations.EventsAreQueuedAndRead : Prop :=
  (∀ (e : Event) (s : State),
    let q := s.cml.events
    let put (q' : List EventRecord) : State := { s with cml := { s.cml with events := q' } }
    ((∀ r ∈ q, r.isLost = false) → q.length ≤ 30 → post e s = put (q ++ [{ event := e, frame := s.stu.frame }])) ∧
    ((∀ r ∈ q, r.isLost = false) → q.length = 31 →
      post e s = put (q ++ [{ event := .eventsLost 1 e.kind, frame := s.stu.frame }])) ∧
    (∀ q' n k f, q = q' ++ [{ event := .eventsLost n k, frame := f }] → (∀ r ∈ q', r.isLost = false) →
      post e s = put (q' ++ [{ event := .eventsLost (min (n + 1) 65535) k, frame := f }])) ∧
    (eventsOk q = true → attn (post e s) = true)) ∧
  (∀ s : State, ∃ t, exec (.readEvents (params [])) s = .next t ∧
    t = answered 23 .ok (((s.cml.events.take 8).map EventRecord.bytes).flatten ++
        [BitVec.ofNat 8 (min 8 s.cml.events.length)]) s
      { s with cml := { s.cml with events := s.cml.events.drop 8 } } ∧
    attn t = decide (8 < s.cml.events.length))

/-- WRITE_RECORDS with an unknown or read-only table code is refused with RANGE, with nothing stored and the cursor left as it was (R176, R177). A write of one RX_FILTERS or MESSAGES record stores it, and moves the cursor behind it (R93, R150, R177); a station whose PANEL strap read clear refuses the message with RANGE. A write stops at the first refused record: the records before it stand, the ones after it are not offered, and PARTIAL names their number, the refused index and its status (R176). Stated of RX_FILTERS, under the table's row and under WRITE_RECORDS. The model's choices in it: log entry 7, with the bytes beyond a message's length not kept, and that a refused message answers as a refused record does (log entry 17). That the link status byte is shifted out once is log entry 8. -/
def Obligations.WritesStoreTheirRecords : Prop :=
  ((∀ (s : State) (bs : List Byte), configured s = true → s.hfu.mode ≠ .lockout → 2 ≤ bs.length → bs.length ≤ 250 →
    (Table.ofCode (bs.getD 0 0).toNat).bind Table.recordSize = none →
    exec (.writeRecords (params bs)) s = .next (answered 5 .range [] s s)) ∧
  (∀ (s : State) (i : FilterIdx) (rec : List Byte) (f : RxFilter), configured s = true → s.hfu.mode ≠ .lockout →
    rec.length = 9 → rxFilterOf rec = some f →
    let p := params (3 :: BitVec.ofNat 8 i.val :: rec)
    ∀ c : Instr, c = .writeRxFilters p ∨ c = .writeRecords p → exec c s = .next (answered 5 .ok [1] s
      { s with vnp := { s.vnp with filters := vset s.vnp.filters i f }
               cml := { s.cml with cursor := some (.rxFilters, i.val + 1) } })) ∧
  (∀ (s : State) (i : Fin 128) (rec text : List Byte), configured s = true → s.hfu.mode ≠ .lockout →
    rec.length = 41 → messageOf rec = some text →
    exec (.writeMessages (params (4 :: BitVec.ofNat 8 i.val :: rec))) s = .next (
      if s.cml.strapPanel then
        answered 5 .ok [1] s
          { s with prs := { s.prs with messages := vset s.prs.messages i text }
                   cml := { s.cml with cursor := some (.messages, i.val + 1) } }
      else
        answered 5 .partialWrite [0, BitVec.ofNat 8 i.val, 4] s
          { s with cml := { s.cml with cursor := some (.messages, i.val) } }))) ∧
  (∀ (s : State) (first : Byte) (good : List (List Byte)) (bad rest : List Byte), configured s = true →
    s.hfu.mode ≠ .lockout → (∀ r ∈ good, r.length = 9 ∧ (rxFilterOf r).isSome = true) → bad.length = 9 →
    rxFilterOf bad = none → rest.length % 9 = 0 → good.length + 1 + rest.length / 9 ≤ 8 →
    first.toNat + good.length < 16 →
    let p := params (3 :: first :: (good.flatten ++ bad ++ rest))
    ∀ c : Instr, c = .writeRxFilters p ∨ c = .writeRecords p → ∃ t, exec c s = .next t ∧
      t = answered 5 .partialWrite
        [BitVec.ofNat 8 good.length, BitVec.ofNat 8 (first.toNat + good.length), 4] s
        { s with vnp := { s.vnp with filters := t.vnp.filters }
                 cml := { s.cml with cursor := some (.rxFilters, first.toNat + good.length) } } ∧
      (∀ (j : FilterIdx), t.vnp.filters[j] =
        if first.toNat ≤ j.val ∧ j.val < first.toNat + good.length then
          ((good[j.val - first.toNat]?).bind rxFilterOf).getD s.vnp.filters[j]
        else s.vnp.filters[j]))

/-- A write of one TX_SLOTS record. A record with a field outside its range, or with a bound field and a rolling counter that leave the length or share a bit, is refused with RANGE and the slot stays (R83): `slotAllowed` lists the tests. Otherwise the definition that the 31 bytes of 11.4 write (`slotAsked`) replaces the slot's: a PENDING instance is discarded, an attempt on the line goes on detached, the run-time fields take their reset values, and an enabled periodic slot falls due at its phase offset while the scheduler runs (R84). The model's choices in it: log entry 7, with the bits that 11.4 marks as sent 0 ignored, and a source channel above 7 as RANGE (log entry 19). That the link status byte is shifted out once is log entry 8. -/
def Obligations.WriteOfATransmitSlot : Prop :=
  ∀ (s : State) (i : TxSlotIdx) (rec : List Byte), configured s = true → s.hfu.mode ≠ .lockout → rec.length = 31 →
    let cmd : Instr := .writeTxSlots (params (2 :: BitVec.ofNat 8 i.val :: rec))
    let asked : VnSlot := slotAsked rec
    let stored : VnSlot := { asked with
      inst := match (s.vnp.slots[i]).inst with
        | .onLine x _ => .onLine x true
        | _ => .none
      due := if s.vnp.scheduler = true ∧ asked.enable = true ∧ asked.period ≠ 0 then some (asked.phase * 10000) else none }
    (slotAllowed rec → exec cmd s = .next (answered 5 .ok [1] s
      { s with vnp := { s.vnp with slots := vset s.vnp.slots i stored }
               cml := { s.cml with cursor := some (.txSlots, i.val + 1) } })) ∧
    (¬slotAllowed rec → exec cmd s = .next (answered 5 .partialWrite [0, BitVec.ofNat 8 i.val, 4] s
      { s with cml := { s.cml with cursor := some (.txSlots, i.val) } }))

/-- A write of one pattern group with an unknown term or mode code is refused with RANGE and the group stays; any other stores the terms and the mode of its 17 bytes (11.4), clears its count, matches and snapshot, and judges its mark from the present levels (R100). A write of one line stores invert and filter, takes the level from the sample without an edge, and judges the marks of all groups again (R98); a line that a lent channel observes refuses it with BUSY. Records 20 to 23 refuse a write with RANGE (R104). CLEAR_PATTERN sets a group's count to 0 and clears its first and last match and its snapshot, and leaves its terms, mode and mark; an index above 3 is refused with RANGE (R103). The model's choices in it: log entry 7, with the bits that 11.4 marks as sent 0 ignored, and log entry 21. That the link status byte is shifted out once is log entry 8. -/
def Obligations.PatternGroupCommands : Prop :=
  (∀ (s : State) (g : GroupIdx) (rec : List Byte), configured s = true → s.hfu.mode ≠ .lockout → rec.length = 17 →
    let cmd : Instr := .writePatternGroups (params (5 :: BitVec.ofNat 8 g.val :: rec))
    let terms := termsAsked rec
    let stored : Group :=
      { terms := terms, latched := decide (numAt rec 16 1 = 1), count := 0, first := none, last := none, snapshot := none
        mark := (List.finRange 16).all (fun i =>
          match terms[i] with
          | .low => !(s.rcu.lines[i]).level
          | .high => (s.rcu.lines[i]).level
          | _ => true) }
    (groupAllowed rec → exec cmd s = .next (answered 5 .ok [1] s
      { s with rcu := { s.rcu with groups := vset s.rcu.groups g stored }
               cml := { s.cml with cursor := some (.patternGroups, g.val + 1) } })) ∧
    (¬groupAllowed rec → exec cmd s = .next (answered 5 .partialWrite [0, BitVec.ofNat 8 g.val, 4] s
      { s with cml := { s.cml with cursor := some (.patternGroups, g.val) } }))) ∧
  (∀ (s : State) (l : LineIdx) (rec : List Byte), configured s = true → s.hfu.mode ≠ .lockout → rec.length = 17 →
    (∀ m : MeasIdx, (s.rcu.meas[m]).map (·.line) ≠ some l) →
    let invert := (rec.getD 0 0).getLsbD 0
    let stored : Line := { s.rcu.lines[l] with
      invert := invert, filter := (rec.getD 1 0).toNat, level := s.pins.obs.getLsbD l.val != invert, run := 0 }
    let lines := vset s.rcu.lines l stored
    let levels : Vector Bool 16 := Vector.ofFn (fun i => (lines[i]).level)
    exec (.writeLineConditioning (params (5 :: BitVec.ofNat 8 (l.val + 4) :: rec))) s = .next (answered 5 .ok [1] s
      { s with rcu := { s.rcu with lines := lines
                                   groups := vmap (fun g => { g with mark := g.inPattern levels }) s.rcu.groups }
               cml := { s.cml with cursor := some (.patternGroups, l.val + 5) } })) ∧
  (∀ (s : State) (l : LineIdx) (m : MeasIdx) (rec : List Byte), configured s = true → s.hfu.mode ≠ .lockout →
    rec.length = 17 → (s.rcu.meas[m]).map (·.line) = some l →
    exec (.writeLineConditioning (params (5 :: BitVec.ofNat 8 (l.val + 4) :: rec))) s =
      .next (answered 5 .partialWrite [0, BitVec.ofNat 8 (l.val + 4), 3] s
        { s with cml := { s.cml with cursor := some (.patternGroups, l.val + 4) } })) ∧
  (∀ (s : State) (m : MeasIdx) (rec : List Byte), configured s = true → s.hfu.mode ≠ .lockout → rec.length = 17 →
    exec (.writePatternGroups (params (5 :: BitVec.ofNat 8 (m.val + 20) :: rec))) s =
      .next (answered 5 .partialWrite [0, BitVec.ofNat 8 (m.val + 20), 4] s
        { s with cml := { s.cml with cursor := some (.patternGroups, m.val + 20) } })) ∧
  (∀ (s : State) (b : Byte), configured s = true → (s.hfu.mode = .normal ∨ s.hfu.mode = .halted) →
    (∀ g : GroupIdx, b.toNat = g.val →
      let cleared : Group := { (s.rcu.groups[g]) with count := 0, first := none, last := none, snapshot := none }
      exec (.clearPattern (params [b])) s = .next (answered 16 .ok [] s
        { s with rcu := { s.rcu with groups := vset s.rcu.groups g cleared } })) ∧
    (4 ≤ b.toNat → exec (.clearPattern (params [b])) s = .next (answered 16 .range [] s s)))

/-- A write of one CHECKS record (R113, R114). An armed check refuses it with BUSY. An unknown kind, and a definition with a field that its kind and limit mode use outside its range of R113, is refused with RANGE: `checkAllowed` lists the tests. Otherwise the definition that the 51 bytes of 11.4 write is stored, with W, K, S, the deadline and an ABSOLUTE guard adjusted as the table of R114 says (`checkStored`), the check is IDLE and its entry leaves the test record; the answer is OK, or OK_ADJUSTED with the index where a value was adjusted. The model's choices in it: log entry 7, with the bits that 11.4 marks as sent 0 ignored, log entry 17, and the tests of the scale and the limits on a check of kind NONE (log entry 22). That the link status byte is shifted out once is log entry 8. -/
def Obligations.WriteOfACheck : Prop :=
  ∀ (s : State) (i : CheckIdx) (rec : List Byte), configured s = true → s.hfu.mode ≠ .lockout → rec.length = 51 →
    let cmd : Instr := .writeChecks (params (1 :: BitVec.ofNat 8 i.val :: rec))
    let kind : Option CheckKind := kindNames[numAt rec 0 1]?
    let refusedWith (code : Byte) : State := answered 5 .partialWrite [0, BitVec.ofNat 8 i.val, code] s
      { s with cml := { s.cml with cursor := some (.checks, i.val) } }
    let stored (d : CheckDef) : State :=
      { s with cke := { s.cke with checks := vset s.cke.checks i { defn := d, state := .idle, run := none }
                                   record := s.cke.record.filter (fun e => decide (e.check ≠ i)) }
               cml := { s.cml with cursor := some (.checks, i.val + 1) } }
    ((s.cke.checks[i]).state.isArmed = true → exec cmd s = .next (refusedWith 3)) ∧
    ((s.cke.checks[i]).state.isArmed = false →
      (kind = none → exec cmd s = .next (refusedWith 4)) ∧
      ∀ k, kind = some k →
        let d := checkAsked rec k
        (¬checkAllowed i d → exec cmd s = .next (refusedWith 4)) ∧
        (checkAllowed i d → checkStored d = d → exec cmd s = .next (answered 5 .ok [1] s (stored d))) ∧
        (checkAllowed i d → checkStored d ≠ d → exec cmd s =
          .next (answered 5 .okAdjusted [1, 1, BitVec.ofNat 8 i.val, 0, 0, 0, 0, 0, 0, 0] s (stored (checkStored d)))))

/-- Every payload within its codes is read back from the bytes it is sent as (11.1, R185). The written forms of a receive filter, a message, a check definition, a transmit slot, a pattern group and a line, and the parameters of CONFIGURE and SET_CHANNEL, are read back as they were written (11.2, 11.4). The bytes of a link transaction give its command: 90, the command's code, the parameter length and the parameters give each command write with the row of its table, an unknown code UNKNOWN_COMMAND, 165 a response read of the bytes behind it, and what R172 discards a discarded transaction; every sequence of bytes gives a well-formed command (R172, R186). The model's choices in it: the bound of 32 bits on the fields of a filter that is OFF (log entry 19), and that a BEACON's fields are judged each by itself (log entry 11). -/
def Obligations.WrittenFormsReadBack : Prop :=
  (∀ p : Payload, payloadInCode p = true → Payload.ofBytes p.kind p.bytes = some p) ∧
  ((∀ f : RxFilter, f.latest = none → f.identifier.toNat < filterBound f.format → f.mask.toNat < filterBound f.format →
    rxFilterOf f.bytes = some f) ∧
  (∀ text : List Byte, text.length ≤ 40 → (∀ b ∈ text, 32 ≤ b.toNat ∧ b.toNat ≤ 126) →
    messageOf (messageBytes text) = some text) ∧
  (∀ d : CheckDef, checkDefFits d = true → checkDefOf d.bytes = some d) ∧
  (∀ v : VnSlot, slotInRange v → (∀ f ∈ v.bound, f.m < 65536 ∧ f.d < 65536 ∧ fitsS32 f.o = true) →
    vnSlotOf v.bytes = some (slotDefinition v)) ∧
  (∀ g : Group, groupOf (g.bytes.take 17) = some (g.terms, g.latched)) ∧
  (∀ l : Line, l.filter < 256 → numAt l.bytes 0 1 = (if l.invert then 1 else 0) ∧ numAt l.bytes 1 1 = l.filter) ∧
  (∀ (i : ChannelIdx) (t : Timing) (u : ChannelUpdate), updateInRange i u →
    setChannelOf (updateBytes i t u) = some (i, t, u, false)) ∧
  (∀ c : StationConfig, configInRange c = true → configOf (255 :: 3 :: c.bytes) = some (c, false))) ∧
  ((∀ (c : Instr) (r : LinkRow) (p : Params), linkRow c = some (r, p) → WellFormed c = true →
    transactionCommand (90 :: BitVec.ofNat 8 r.code :: BitVec.ofNat 8 p.len :: p.bytes) = c) ∧
  (∀ (code : Byte) (p : Params), WellFormed (.unknownCommand code p) = true →
    transactionCommand (90 :: code :: BitVec.ofNat 8 p.len :: p.bytes) = .unknownCommand code p) ∧
  (∀ bytes : List Byte, transactionCommand (165 :: bytes) = .responseRead bytes.length) ∧
  (∀ bytes : List Byte, WellFormed (.transactionDiscarded bytes) = true →
    transactionCommand bytes = .transactionDiscarded bytes) ∧
  (∀ bytes : List Byte, WellFormed (transactionCommand bytes) = true))

/-! ## The nest (chapter 2) -/

/-- CLAMP and UNCLAMP (R25, R27): taken in NORMAL in the nest states their rules give, each energizes its coil, starts the motion at CLAMP_TIME_LIMIT, moves the nest and answers OK; in any other nest state or mode it is refused with WRONG_STATE and nothing else changes. How often MISO shifts out the link status byte is left open. -/
def Obligations.ClampAndUnclamp : Prop :=
  ∀ s : State, configured s = true →
    let moving (d : Direction) (n : NestState) : State :=
      { s with ncu := { s.ncu with nest := n, motion := some { dir := d, left := (conf s).clampLimit * 10000 } } }
    (∀ d n, movingTo d (moving d n).ncu = true) ∧
    (if s.hfu.mode = .normal ∧ s.ncu.nest = .seated then
      answersAs (exec (.clamp (params [])) s) 6 .ok [] s (moving .closing .clamping)
     else answersAs (exec (.clamp (params [])) s) 6 .wrongState [] s s) ∧
    (if s.hfu.mode = .normal ∧ (s.ncu.nest = .clamped ∨
        ((s.ncu.nest = .empty ∨ s.ncu.nest = .seated) ∧ s.ncu.clampOpen.level = false)) then
      answersAs (exec (.unclamp (params [])) s) 7 .ok [] s (moving .opening .unclamping)
     else answersAs (exec (.unclamp (params [])) s) 7 .wrongState [] s s)

/-- A running clamp motion ends at the first of its events (R26, R28). Closing: clamp-closed asserts and the nest is CLAMPED, or the seat pair is lost and the nest is derived without a fault. Opening: clamp-open asserts and the nest is derived. Either: the motion timer expires, the nest stays, and CLAMP_TIMEOUT puts the station in FAULT. The model's choices in it: log entries 4 and 5. -/
def Obligations.ClampMotionsEnd : Prop :=
  ∀ (s : State) (m : ClampMotion), ready s → s.ncu.motion = some m →
    (m.dir = .closing → s.ncu.nest = .clamping →
      (s.ncu.clampClosed.level = false →
        let e := elapse (s.ncu.clampClosed.timer.getD 0) s
        exec (.clampClosedDebouncedChange true) s = .next (post (.clampDone true .clamped)
          { e with pins := { e.pins with clampClosed := true }
                   ncu := { e.ncu with nest := .clamped, motion := none, clampClosed := { level := true, timer := none } } })) ∧
      (∀ i : SeatInput, seatPair s.ncu = true → ∃ t, exec (.seatDebouncedChange i false) s = .next t ∧
        t.ncu.motion = none ∧ seatPair t.ncu = false ∧ t.hfu = s.hfu ∧
        t.ncu.nest = (if s.ncu.clampClosed.level then .clamped else .empty) ∧
        t.cml.events = postTo s.cml.events { event := .clampDone false t.ncu.nest, frame := s.stu.frame })) ∧
    (m.dir = .opening → s.ncu.nest = .unclamping → s.ncu.clampOpen.level = false →
      ∃ t, exec (.clampOpenDebouncedChange true) s = .next t ∧
        t.ncu.motion = none ∧ t.ncu.clampOpen = { level := true, timer := none } ∧ t.hfu = s.hfu ∧
        t.ncu.nest = (if s.ncu.clampClosed.level then .clamped else if seatPair s.ncu then .seated else .empty) ∧
        t.cml.events = postTo s.cml.events { event := .unclampDone true t.ncu.nest, frame := s.stu.frame }) ∧
    (∃ t f, exec .motionTimerExpiry s = .next t ∧ t.ncu.motion = none ∧ t.ncu.nest = s.ncu.nest ∧
      t.hfu.mode = .fault ∧ t.hfu.recState = .opened ∧ t.hfu.entry = some f ∧ f.cause = .clampTimeout m.dir ∧
      f.nest = s.ncu.nest)

/-- In EMPTY and SEATED in NORMAL, and while HALTED, each debounced change of a seat or of clamp-closed derives the nest state (R22, R24, R34). A change of clamp-open leaves the nest in NORMAL and derives it while HALTED. SEAT_CHANGED is posted with the levels and the state, and nothing but the time, the input and the nest changes. Stated while HALTED of changes that are no loss in a held nest (R32, R33). The model's choices in it: log entries 4 and 5. -/
def Obligations.SensorChangesDeriveTheNest : Prop :=
  ∀ (s : State) (level : Bool), configured s = true →
    ((s.hfu.mode = .normal ∧ (s.ncu.nest = .empty ∨ s.ncu.nest = .seated)) ∨
      (s.hfu.mode = .halted ∧ s.ncu.nest ≠ .powered)) →
    let held : Prop := s.ncu.nest = .clamped ∨ s.ncu.nest = .powerWait
    let derived (n : Ncu) : NestState := if n.clampClosed.level then .clamped else if n.seatA.level && n.seatB.level then .seated else .empty
    let posted (n : Ncu) (nest : NestState) : List EventRecord := postTo s.cml.events
      { event := .seatChanged n.seatA.level n.seatB.level n.clampClosed.level n.clampOpen.level nest, frame := s.stu.frame }
    let now : Debounced := { level := level, timer := none }
    let after (e : State) (n : Ncu) (nest : NestState) (p : Pins) : State :=
      { e with pins := p, ncu := { n with nest := nest }, cml := { e.cml with events := posted n nest } }
    (s.ncu.seatA.level ≠ level → (held → level = true ∨ s.ncu.seatB.level = false) →
      let e := elapse (s.ncu.seatA.timer.getD 0) s
      let n := { e.ncu with seatA := now }
      exec (.seatDebouncedChange .seatA level) s = .next (after e n (derived n) { e.pins with seatA := level })) ∧
    (s.ncu.seatB.level ≠ level → (held → level = true ∨ s.ncu.seatA.level = false) →
      let e := elapse (s.ncu.seatB.timer.getD 0) s
      let n := { e.ncu with seatB := now }
      exec (.seatDebouncedChange .seatB level) s = .next (after e n (derived n) { e.pins with seatB := level })) ∧
    (s.ncu.clampClosed.level ≠ level → (held → level = true) →
      let e := elapse (s.ncu.clampClosed.timer.getD 0) s
      let n := { e.ncu with clampClosed := now }
      exec (.clampClosedDebouncedChange level) s = .next (after e n (derived n) { e.pins with clampClosed := level })) ∧
    (s.ncu.clampOpen.level ≠ level →
      let e := elapse (s.ncu.clampOpen.timer.getD 0) s
      let n := { e.ncu with clampOpen := now }
      exec (.clampOpenDebouncedChange level) s = .next (after e n
        (if s.hfu.mode = .halted then derived n else s.ncu.nest) { e.pins with clampOpen := level }))

/-- The loss of the seat pair, or of clamp-closed, in CLAMPED, POWER_WAIT or POWERED is a severe fault (R32, R33, R164). From NORMAL and from HALTED the station is in FAULT with the nest held, both switches open, the port OFF, the stimulus safe, the frame counter not running and no check armed, the record holds the cause, the mode and the nest state that is held (R35, R165), and FAULT_ENTERED is the event posted last. In FAULT it is the second cause, and the station is in LOCKOUT (R168). The model's choices in it: log entries 5 and 13. -/
def Obligations.LossOfSeatOrClampIsASevereFault : Prop :=
  ∀ s : State, configured s = true →
    (s.ncu.nest = .clamped ∨ s.ncu.nest = .powerWait ∨ s.ncu.nest = .powered) →
    let safe (t : State) : Prop :=
      t.ncu.motion = none ∧ anyClosed t.dsu = false ∧ t.dsu.switchOver = none ∧ t.vnp.port = .off ∧
      stimulusSafe t = true ∧ t.stu.counter ≠ .running
    let recorded (cause : Cause) (mode : Mode) (t : State) : Prop :=
      t.hfu.mode = .fault ∧ t.hfu.recState = .opened ∧ (∃ f, t.hfu.entry = some f ∧ f.cause = cause ∧
        f.nest = s.ncu.nest ∧ f.entryMode = mode ∧ f.recoverable = false ∧ f.second = none) ∧
      (∀ i : CheckIdx, (t.cke.checks[i]).state.isArmed = false)
    let lost (cause : Cause) (t : State) : Prop :=
      (s.hfu.mode = .normal ∨ s.hfu.mode = .halted →
        recorded cause s.hfu.mode t ∧ safe t ∧ t.ncu.nest = s.ncu.nest ∧
        (noChecks s → s.cml.events = [] → t.cml.events.getLast? = some
          { event := .faultEntered cause false s.ncu.nest, frame := s.stu.frame })) ∧
      (∀ f, s.hfu.mode = .fault → s.hfu.entry = some f → t.hfu.mode = .lockout ∧
        (∃ g tick, t.hfu.entry = some g ∧ g.cause = f.cause ∧ g.second = some (cause, tick) ∧ g.recoverable = false) ∧
        (s.ncu.motion = none → safe t) ∧ t.ncu.nest = s.ncu.nest)
    (∀ i : SeatInput, seatPair s.ncu = true →
      ∃ t, exec (.seatDebouncedChange i false) s = .next t ∧ lost .seatLost t ∧ seatPair t.ncu = false) ∧
    (s.ncu.clampClosed.level = true →
      ∃ t, exec (.clampClosedDebouncedChange false) s = .next t ∧ lost .clampLost t ∧
        t.ncu.clampClosed = { level := false, timer := none })

/-- A raw input takes a level (R20): where the level differs from the debounced one the debounce timer runs from the input's full time, or on where it runs already, and where they agree it stops. Only that input's timer and pin change. An observation line, and an input the station does not read, changes its pin alone (R21, R97, R180). The model's choices in it: log entry 5. -/
def Obligations.RawInputsAreDebounced : Prop :=
  ∀ (s : State) (input : RawInput) (level : Bool), ∃ t, exec (.rawInputChange input level) s = .next t ∧
    t = { s with pins := setRaw input level s.pins, ncu := t.ncu, prs := t.prs } ∧
    t.ncu.nest = s.ncu.nest ∧ t.ncu.motion = s.ncu.motion ∧
    t.prs = { s.prs with keyOk := t.prs.keyOk, keyPass := t.prs.keyPass, keyFail := t.prs.keyFail,
                         keyHaltReset := t.prs.keyHaltReset } ∧
    (∀ other, other ≠ input → debounceOf other t = debounceOf other s) ∧
    (inputRead s input = false → debounceOf input t = debounceOf input s) ∧
    (inputRead s input = true → debounceOf input t = (debounceOf input s).map (fun d =>
      { level := d.level, timer := if level = d.level then none else some (d.timer.getD (debounceTicks input)) }))

/-! ## Power commands (3.4, 3.5) -/

/-- POWER_ON (R29, R46): it needs NORMAL, CLAMPED and the seat pair; its source must be MAIN or AUX, and good; a transmitter that is OFF leaves everything as it was. Taken, the source is recorded, the claim is WAITING and not listed, a SLOT_CLAIM with T_INRUSH waits, the power-wait timer starts at 10,000 ms and the nest is POWER_WAIT. POWER_OFF (R29, R50). In POWER_WAIT the claim is withdrawn, the nest is CLAMPED and POWER_CANCELLED is posted. In POWERED both switches open, a switch-over and the inrush window end, the claim is dropped, the stimulus is safe, no check is armed, the nest is CLAMPED, the counter STOPPED and the port OFF, and no event is posted. In any other nest state or mode it is refused with WRONG_STATE. The model's choices in it: log entry 17. That the link status byte is shifted out once is log entry 8. -/
def Obligations.PowerCommands : Prop :=
  (∀ (s : State) (b : Byte), configured s = true →
    let refusedWith (st : Status) : State := answered 8 st [] s s
    let claimed (r : Rail) : State :=
      { s with
        ncu := { s.ncu with nest := .powerWait }
        dsu := { s.dsu with requested := some r, ownClaim := .waiting, listed := false, powerWait := some 100000000 }
        rbc := s.rbc.setSlot .slotClaim ((s.rbc.slot .slotClaim).replaceWith (.slotClaim (conf s).tInrush)) }
    exec (.powerOn (params [b])) s = .next (
      if ¬(s.hfu.mode = .normal ∧ s.ncu.nest = .clamped ∧ seatPair s.ncu = true) then refusedWith .wrongState
      else match railOf b.toNat with
        | none => refusedWith .range
        | some r =>
          if sourceGood s r = false then refusedWith .sourceNotReady
          else if s.rbc.tx = .offClash ∨ s.rbc.tx = .offStrap then refusedWith .wrongState
          else answered 8 .ok [] s (claimed r))) ∧
  (∀ s : State, configured s = true →
    (¬(s.hfu.mode = .normal ∧ (s.ncu.nest = .powerWait ∨ s.ncu.nest = .powered)) →
      exec (.powerOff (params [])) s = .next (answered 9 .wrongState [] s s)) ∧
    (∀ r, s.hfu.mode = .normal → s.ncu.nest = .powerWait → s.dsu.ownClaim = .waiting → s.dsu.requested = some r →
      exec (.powerOff (params [])) s = .next (answered 9 .ok [] s (post (.powerCancelled r)
        { s with ncu := { s.ncu with nest := .clamped }
                 dsu := { s.dsu with ownClaim := .none, listed := false, powerWait := none }
                 rbc := (s.rbc.request .slotRelease).1 }))) ∧
    (s.hfu.mode = .normal → s.ncu.nest = .powered →
      ∃ t, exec (.powerOff (params [])) s = .next (answered 9 .ok [] s t) ∧ t.ncu = { s.ncu with nest := .clamped } ∧
        anyClosed t.dsu = false ∧ t.dsu.switchOver = none ∧ t.dsu.inrush = none ∧ t.dsu.ownClaim = .none ∧
        t.dsu.claims = s.dsu.claims ∧ stimulusSafe t = true ∧ t.stu.counter = .stopped ∧ t.vnp.port = .off ∧
        (∀ i : CheckIdx, (t.cke.checks[i]).state.isArmed = false) ∧ t.hfu = s.hfu ∧ t.cml = s.cml ∧ t.pins = s.pins))

/-- SWITCH_SOURCE (R29, R51): its tests in turn, and the start of a switch-over, which commands the target CLOSED, starts the overlap timer at 2 ms and the confirmation timer at 5 ms, and clears the confirmed mark. Each command of a switch starts its transition window at 5 ms and stops its mismatch timer (R37, R38). The events of a switch-over (R52): the target's feedback confirms it while the confirmation timer runs; the overlap timer completes a confirmed one, and a confirmation after the overlap completes it at once; the confirmation timer fails an unconfirmed one with NO_FEEDBACK, a lost source of the target with SOURCE_LOST, and a contained fault with FAULT. Completed, the old source is commanded OPEN and SWITCH_DONE posted; failed, the target is commanded OPEN, the old source stays closed, SWITCH_FAILED is posted, and no fault is raised by it. A halt ends it without an event (R53). The model's choices in it: log entries 4, 12 and 17. That the link status byte is shifted out once is log entry 8. -/
def Obligations.SwitchOversRunToTheirEnd : Prop :=
  (∀ (s : State) (b : Byte), configured s = true →
    let refusedWith (st : Status) : State := answered 10 st [] s s
    let flight (r : Rail) : SwitchOver :=
      { target := r, old := otherRail r, overlap := some 20000, confirm := some 50000, confirmed := false }
    let started (r : Rail) : State :=
      (closeSwitch r s).withDsu { (closeSwitch r s).dsu with switchOver := some (flight r) }
    exec (.switchSource (params [b])) s = .next (
      if ¬(s.hfu.mode = .normal ∧ s.ncu.nest = .powered) then refusedWith .wrongState
      else match railOf b.toNat with
        | none => refusedWith .range
        | some r =>
          if s.dsu.switchOver.isSome then refusedWith .busy
          else if (s.dsu.sw r).closed = true ∧ (s.dsu.sw (otherRail r)).closed = false then
            answered 10 .ok [] s (post (.switchDone r) s)
          else if sourceGood s r = false then refusedWith .sourceNotReady
          else answered 10 .ok [] s (started r)) ∧
    (∀ r, (s.dsu.sw r).closed = false →
      let x : Switch := { closed := true, window := some 50000, mismatch := none, loss := (s.dsu.sw r).loss }
      closeSwitch r s = { s with dsu := s.dsu.setSw r x })) ∧
  (∀ (s : State) (x : SwitchOver), ready s → s.dsu.switchOver = some x → x.old = otherRail x.target →
    (s.dsu.sw x.target).closed = true → (s.dsu.sw x.old).closed = true →
    let completed (t : State) : Prop :=
      t.dsu.switchOver = none ∧ (t.dsu.sw x.target).closed = true ∧
      t.dsu.sw x.old = { closed := false, window := some 50000, mismatch := none, loss := none } ∧
      t.cml.events = postTo s.cml.events { event := .switchDone x.target, frame := s.stu.frame }
    let opened (t : State) : Prop :=
      t.dsu.switchOver = none ∧ (t.dsu.sw x.old).closed = true ∧
      t.dsu.sw x.target = { closed := false, window := some 50000, mismatch := none, loss := none }
    let failed (reason : Nat) (t : State) : Prop := opened t ∧
      t.cml.events = postTo s.cml.events { event := .switchFailed x.target reason, frame := s.stu.frame }
    (∀ left, x.overlap = some left → ∃ t, exec .overlapTimerExpiry s = .next t ∧ t.hfu = s.hfu ∧ t.ncu.nest = s.ncu.nest ∧
      (x.confirmed = true → completed t) ∧
      (x.confirmed = false → t.dsu.switchOver = some { x with overlap := none, confirm := x.confirm.map (· - left) } ∧
        (t.dsu.sw x.target).closed = true ∧ (t.dsu.sw x.old).closed = true ∧ t.cml = s.cml)) ∧
    (∀ left, x.confirm = some left → ∃ t, exec .confirmationTimerExpiry s = .next t ∧ t.hfu = s.hfu ∧
      t.ncu.nest = s.ncu.nest ∧ (x.confirmed = false → failed 0 t) ∧
      (x.confirmed = true → t.dsu.switchOver = some { x with confirm := none, overlap := x.overlap.map (· - left) } ∧
        (t.dsu.sw x.target).closed = true ∧ (t.dsu.sw x.old).closed = true ∧ t.cml = s.cml)) ∧
    (feedback s x.target = false → ∃ t, exec (.switchFeedbackChange x.target true) s = .next t ∧ t.hfu = s.hfu ∧
      t.ncu = s.ncu ∧
      (x.confirm.isSome = true → x.overlap.isSome = true → t.dsu.switchOver = some { x with confirmed := true } ∧
        (t.dsu.sw x.old).closed = true ∧ t.cml = s.cml) ∧
      (x.confirm.isSome = true → x.overlap = none → completed t) ∧
      (x.confirm = none → t.dsu.switchOver = some x ∧ t.cml = s.cml)) ∧
    (sourceGood s x.target = true →
      ∃ t, exec (.sourceGoodChange x.target false) s = .next t ∧ t.hfu = s.hfu ∧ t.ncu = s.ncu ∧ failed 1 t) ∧
    (∀ c : Cause, c.severe = false → s.ncu.nest = .powered → s.ncu.motion = none → s.cml.events = [] →
      let t := raiseFault c s
      t.hfu.mode = .fault ∧ opened t ∧ t.ncu = s.ncu ∧
      t.cml.events.head? = some { event := .switchFailed x.target 2, frame := s.stu.frame } ∧
      ∃ b, t.cml.events.getLast? = some { event := .faultEntered c b .powered, frame := s.stu.frame }) ∧
    (∀ i : StationIdx, ownIdx s ≠ some i → haltFlag s.hfu = false → ∃ t, exec (.haltAccepted i) s = .next t ∧
      t.dsu.switchOver = none ∧ anyClosed t.dsu = false ∧
      (s.cml.events = [] → ∀ r ∈ t.cml.events, ∀ rail n, r.event ≠ .switchFailed rail n ∧ r.event ≠ .switchDone rail)))

/-! ## Halt and faults (chapter 9) -/

/-- A halt input's debounced change that makes the halt input active enters the own member and, unless the transmitter is OFF, queues a HALT, in every mode and also where the halt-source set holds another member. Where the set was empty it is halt entry from NORMAL, and in FAULT and LOCKOUT the mode stays (R156, R157, R160, R161); where it was not, in HALTED, FAULT or LOCKOUT, no halt entry follows: the mode, the record, the nest and the events stay, and no unit takes a halt action (R155). One that makes it inactive removes the own member and queues a HALT_CLEAR without FORCE, and the mode follows the set (R162). On a station without an index the own member is a mark of its own (R156). The model's choices in it: log entries 5 and 31. -/
def Obligations.HaltInputEntersTheOwnMember : Prop :=
  (∀ (s : State) (i : HaltInput), configured s = true → ownIdx s = none → (i = .estop → s.cml.strapPanel = true) →
    (haltInput s = false → ∃ t, exec (.haltInputChange i true) s = .next t ∧ haltInput t = true ∧
      t.hfu.ownMark = true ∧ t.hfu.sources = s.hfu.sources ∧
      t.hfu.mode = (if s.hfu.mode = .normal ∧ haltFlag s.hfu = false then .halted else s.hfu.mode)) ∧
    (haltInput s = true → haltFlag s.hfu = true →
      (∀ other : HaltInput, other ≠ i → (match other with
        | .haltIn => s.ncu.haltIn.level
        | .estop => s.cml.strapPanel && s.ncu.estop.level) = false) →
      ∃ t, exec (.haltInputChange i false) s = .next t ∧ haltInput t = false ∧
        t.hfu.ownMark = false ∧ t.hfu.sources = s.hfu.sources ∧
        t.hfu.mode = (if s.hfu.mode = .halted ∧ haltFlag t.hfu = false then .normal else s.hfu.mode))) ∧
  (∀ (s : State) (i : HaltInput) (own : StationIdx), configured s = true → ownIdx s = some own →
    (i = .estop → s.cml.strapPanel = true) →
    (haltInput s = false → haltFlag s.hfu = false →
      ∃ t, exec (.haltInputChange i true) s = .next t ∧ haltInput t = true ∧
        t.hfu.sources = vset s.hfu.sources own true ∧ (s.rbc.tx.off = false → t.rbc.slot .halt ≠ .empty) ∧
        (s.hfu.mode = .normal → t.hfu.mode = .halted ∧ t.ncu.nest = derivedNest t.ncu ∧ t.ncu.motion = none ∧
          anyClosed t.dsu = false ∧ stimulusSafe t = true) ∧
        (s.hfu.mode = .fault → t.hfu.mode = .fault ∧ t.ncu.nest = s.ncu.nest ∧ t.ncu.motion = none ∧
          anyClosed t.dsu = false ∧ stimulusSafe t = true ∧ ∀ f, t.hfu.entry = some f → f.recoverable = false) ∧
        (s.hfu.mode = .lockout → t.hfu.mode = .lockout ∧ t.hfu.entry = s.hfu.entry ∧ t.cml = s.cml ∧
          t.ncu.nest = s.ncu.nest ∧ t.dsu.main.closed = s.dsu.main.closed ∧ t.dsu.aux.closed = s.dsu.aux.closed)) ∧
    (haltInput s = false → haltFlag s.hfu = true →
      let now : Debounced := { level := true, timer := none }
      let e := elapse ((match i with
        | .haltIn => s.ncu.haltIn.timer
        | .estop => s.ncu.estop.timer).getD 0) s
      ∃ t, exec (.haltInputChange i true) s = .next t ∧ haltInput t = true ∧
        t.hfu = { s.hfu with sources := vset s.hfu.sources own true } ∧ t.rbc = (e.rbc.request .halt).1 ∧
        (s.rbc.tx.off = false → t.rbc.slot .halt ≠ .empty) ∧ t.cml = s.cml ∧ t.ncu.nest = s.ncu.nest ∧
        t.ncu = (match i with
          | .haltIn => { e.ncu with haltIn := now }
          | .estop => { e.ncu with estop := now }) ∧
        t.dsu = e.dsu ∧ t.stu = e.stu ∧ t.vnp = e.vnp ∧ t.rcu = e.rcu ∧ t.cke = e.cke ∧ t.prs = e.prs) ∧
    (haltInput s = true → haltFlag s.hfu = true →
      (∀ other : HaltInput, other ≠ i → (match other with
        | .haltIn => s.ncu.haltIn.level
        | .estop => s.cml.strapPanel && s.ncu.estop.level) = false) →
      ∃ t, exec (.haltInputChange i false) s = .next t ∧ haltInput t = false ∧
        t.hfu.sources = vset s.hfu.sources own false ∧
        t.hfu.mode = (if s.hfu.mode = .halted ∧ haltFlag t.hfu = false then .normal else s.hfu.mode) ∧
        (s.rbc.tx.off = false → t.rbc.slot .haltClear = (match s.rbc.slot .haltClear with
          | .inFlight q a _ c => .inFlight q a (some (.haltClear false)) c
          | _ => .pending (.haltClear false) 0))))

/-- HALT of another station (R45, R158, R160): from NORMAL the station is HALTED with the sender in the set, both switches open, the claim list and the claim gone, the clamp motion stopped, the nest derived, the stimulus safe, no check armed, the prompt slot and a panel's queue empty, and HALT_ENTERED is the event posted last. In FAULT the same is done but for the mode, the nest, which is held, and the record, which is no longer recoverable (R161). In LOCKOUT the set, the claims and a panel's queue change alone. A HALT that meets a set with a member, in HALTED, FAULT or LOCKOUT, enters its sender and empties the claim list, the claim and a panel's queue, and no halt entry is repeated: no unit takes a halt action and no HALT_ENTERED is posted (R155). The station's own HALT does the same in every mode, and the set stays, since its member entered with the halt input (R156). HALT_CLEAR (R158, R162): the sender, where it is another station, leaves the set, and with FORCE every index that is ABSENT leaves too, but never the own member; a set that becomes empty returns a HALTED station to NORMAL with the nest derived, and posts HALT_CLEARED there and in FAULT, where the mode and the nest stay. The model's choices in it: log entries 14 and 31. -/
def Obligations.HaltFramesFollowTheSet : Prop :=
  (∀ (s : State) (i : StationIdx), configured s = true → ownIdx s ≠ some i → haltFlag s.hfu = false → s.cml.events = [] →
    let released (t : State) : Prop :=
      t.hfu.sources = vset s.hfu.sources i true ∧ t.dsu.claims = [] ∧ t.dsu.ownClaim = .none ∧
      (s.prs.role = true → t.prs.queue = []) ∧ (t.rbc.peers[i]).present = true
    let entered (t : State) : Prop :=
      anyClosed t.dsu = false ∧ t.dsu.switchOver = none ∧ t.dsu.inrush = none ∧ t.dsu.powerWait = none ∧
      t.ncu.motion = none ∧ stimulusSafe t = true ∧ t.prs.slot = none ∧
      t.cml.events.getLast? = some { event := .haltEntered t.hfu.sources t.hfu.ownMark t.ncu.nest, frame := t.stu.frame }
    ∃ t, exec (.haltAccepted i) s = .next t ∧ released t ∧
      (s.hfu.mode = .normal → t.hfu.mode = .halted ∧ entered t ∧ t.ncu.nest = derivedNest s.ncu ∧
        (∀ c : CheckIdx, (t.cke.checks[c]).state.isArmed = false)) ∧
      (s.hfu.mode = .fault → (∀ c : CheckIdx, (s.cke.checks[c]).state ≠ .settling ∧ (s.cke.checks[c]).state ≠ .opened) →
        t.hfu.mode = .fault ∧ t.hfu.entry = s.hfu.entry.map (fun f => { f with recoverable := false }) ∧ entered t ∧
        t.ncu.nest = s.ncu.nest ∧ t.vnp.port = .off ∧ (∀ c : CheckIdx, (t.cke.checks[c]).state.isArmed = false)) ∧
      (s.hfu.mode = .lockout → (s.rbc.peers[i]).present = true →
        t.hfu = { s.hfu with sources := vset s.hfu.sources i true } ∧ t.ncu = s.ncu ∧ t.stu = s.stu ∧ t.vnp = s.vnp ∧
        t.cke = s.cke ∧ t.cml = s.cml ∧ t.prs.slot = s.prs.slot ∧ t.dsu.main = s.dsu.main ∧ t.dsu.aux = s.dsu.aux)) ∧
  (∀ (s : State) (i : StationIdx), configured s = true →
    (if ownIdx s = some i then heardFrom s i .halt else haltFlag s.hfu = true) →
    ∃ t, exec (.haltAccepted i) s = .next t ∧
      t.hfu = { s.hfu with sources := if ownIdx s = some i then s.hfu.sources else vset s.hfu.sources i true } ∧
      t.dsu.claims = [] ∧ t.dsu.ownClaim = .none ∧ (s.prs.role = true → t.prs.queue = []) ∧
      (ownIdx s ≠ some i → (t.rbc.peers[i]).present = true) ∧ t.ncu = s.ncu ∧ t.stu = s.stu ∧ t.vnp = s.vnp ∧
      t.rcu = s.rcu ∧ t.cke = s.cke ∧ t.prs.slot = s.prs.slot ∧ t.dsu.main = s.dsu.main ∧ t.dsu.aux = s.dsu.aux ∧
      t.cml = (if ownIdx s = some i ∨ (s.rbc.peers[i]).present = true then s.cml
        else { s.cml with events := postTo s.cml.events { event := .peerJoined i, frame := s.stu.frame } })) ∧
  (∀ (s : State) (i : StationIdx) (b : Byte), configured s = true → haltFlag s.hfu = true → s.hfu.mode ≠ .normal →
    heardFrom s i (.haltClear (b.getLsbD 0)) →
    ∃ t, exec (.haltClearAccepted i [b]) s = .next t ∧
      (∀ j : StationIdx, t.hfu.sources[j] = if ownIdx s = some j then s.hfu.sources[j]
        else s.hfu.sources[j] && !(decide (j = i) || (b.getLsbD 0 && !(s.rbc.peers[j]).present))) ∧
      t.hfu.ownMark = s.hfu.ownMark ∧ t.hfu.entry = s.hfu.entry ∧
      ((haltFlag t.hfu = true ∨ s.hfu.mode = .lockout) → t.hfu.mode = s.hfu.mode ∧ t.ncu = s.ncu ∧ t.cml = s.cml) ∧
      (haltFlag t.hfu = false → s.hfu.mode = .halted → t.hfu.mode = .normal ∧
        t.ncu = { s.ncu with nest := derivedNest s.ncu } ∧
        t.cml.events = postTo s.cml.events { event := .haltCleared (derivedNest s.ncu), frame := s.stu.frame }) ∧
      (haltFlag t.hfu = false → s.hfu.mode = .fault → t.hfu.mode = .fault ∧ t.ncu = s.ncu ∧
        t.cml.events = postTo s.cml.events { event := .haltCleared s.ncu.nest, frame := s.stu.frame }))

/-- The keys of the panel station (R149, R159). A press of OK, PASS or FAIL that fits the head, with the role held, the transmitter ON, the settle time over and the PROMPT_ANSWER slot empty, queues the answer and removes the head; any other press changes no more than the key's own level. HALT_RESET queues a forced HALT_CLEAR while the role is held and the own halt input is inactive, and nothing otherwise. The display (R147, R150) is blank before CONFIGURE, shows PANEL CONFLICT once the role is given up, and otherwise the head's message with its nest and the number of entries behind it, or the board summary where the queue is empty. The model's choices in it: log entries 4 and 5. -/
def Obligations.KeysOfThePanel : Prop :=
  ∀ s : State, s.cml.strapPanel = true →
    (∀ key : AnswerKey,
      let e := elapse (((debounceOf (.key key) s).bind (·.timer)).getD 0) s
      let pressed : State :=
        { e with pins := setRaw (.key key) true e.pins, prs := putKey key { level := true, timer := none } e.prs }
      let given : Answer := match key with
        | .ok => .ok
        | .pass => .pass
        | .fail => .fail
      (s.prs.queue = [] → exec (.keyPress key) s = .next pressed) ∧
      (∀ h rest, s.prs.queue = h :: rest →
        let takes : Prop := s.prs.role = true ∧ s.rbc.tx = .on ∧ s.prs.keySettle = none ∧
          ((h.kind = .action ∧ given = .ok) ∨ (h.kind = .judge ∧ given ≠ .ok)) ∧ s.rbc.slot .promptAnswer = .empty
        let asked : Rbc := pressed.rbc.setSlot .promptAnswer (.pending (.promptAnswer h.station h.tag given) 0)
        (takes → ∃ t, exec (.keyPress key) s = .next t ∧
          queueChanged { pressed with rbc := asked } t (pressed.prs.queue.drop 1) ∧ t.cml = s.cml) ∧
        (¬takes → exec (.keyPress key) s = .next pressed))) ∧
    (let e := elapse (s.prs.keyHaltReset.timer.getD 0) s
     let pressed : State := { e with pins := { e.pins with keyHaltReset := true }
                                     prs := { e.prs with keyHaltReset := { level := true, timer := none } } }
     exec .haltResetPress s = .next (
       if s.prs.role = true ∧ haltInput s = false then
         { pressed with rbc := (pressed.rbc.request (.haltClear true)).1 } else pressed)) ∧
    (configured s = false → display s = some (lineOf [], lineOf [])) ∧
    (configured s = true → s.prs.yielded = true → display s = some (lineOf (ascii "PANEL CONFLICT"), lineOf [])) ∧
    (configured s = true → s.prs.yielded = false →
      (s.prs.queue = [] → display s = some (lineOf [], lineOf (summaryOf s))) ∧
      (∀ h rest, s.prs.queue = h :: rest → h.message < 256 → rest.length < 12 →
        let nest := (if h.station.val < 10 then "0" else "") ++ toString h.station.val
        display s = some (lineOf (textOf s h.message),
          lineOf (ascii ("NEST " ++ nest ++ " WAITING " ++ toString rest.length)))))

/-- FAULT_RESUME (R166): refused with WRONG_STATE outside FAULT and with NOT_RECOVERABLE where the flag is clear; taken, the mode is HALTED or NORMAL as the halt flag gives, a held CLAMPING or UNCLAMPING is derived and any other nest state kept, a frozen counter of a POWERED nest in NORMAL runs from its value, a port in BUS_OFF by the cause is ACTIVE with zeroed counters, the record is CLOSED and otherwise kept, and the response gives the mode and the nest state. The model's choices in it: log entries 7 and 15, and that the CLOSED record keeps its recoverable flag (log entry 31). That the link status byte is shifted out once is log entry 8. -/
def Obligations.FaultResumeRestoresTheStation : Prop :=
  ∀ s : State, configured s = true →
    (s.hfu.mode = .normal ∨ s.hfu.mode = .halted → exec (.faultResume (params [])) s = .next (answered 24 .wrongState [] s s)) ∧
    (∀ f, s.hfu.mode = .fault → s.hfu.entry = some f →
      (f.recoverable = false → exec (.faultResume (params [])) s = .next (answered 24 .notRecoverable [] s s)) ∧
      (f.recoverable = true → ∃ t, exec (.faultResume (params [])) s =
          .next (answered 24 .ok [BitVec.ofNat 8 t.hfu.mode.code, BitVec.ofNat 8 t.ncu.nest.code] s t) ∧
        t.hfu = { s.hfu with mode := if haltFlag s.hfu then .halted else .normal, recState := .closed } ∧
        t.ncu = { s.ncu with nest := if s.ncu.nest = .clamping ∨ s.ncu.nest = .unclamping then derivedNest s.ncu else s.ncu.nest } ∧
        t.stu.frame = s.stu.frame ∧
        t.stu.counter = (if s.ncu.nest = .powered ∧ haltFlag s.hfu = false ∧ s.stu.counter = .frozen then .running
          else s.stu.counter) ∧
        t.dsu.main = s.dsu.main ∧ t.dsu.aux = s.dsu.aux ∧
        (s.ncu.nest = .powerWait → s.rbc.tx.off = false →
          t.dsu.ownClaim = .waiting ∧ t.dsu.listed = false ∧ t.dsu.powerWait = some 100000000) ∧
        (f.cause.isBusOff = true → t.vnp.port = .active ∧ t.vnp.tec = 0 ∧ t.vnp.recv = 0) ∧
        (f.cause.isBusOff = false → t.vnp = s.vnp)))

/-- FAULT_ABANDON (R167): refused with WRONG_STATE outside FAULT; taken, both switches are open, the windows and the claim are gone, the stimulus is safe, no check is armed, the nest is derived, the record is CLOSED, the mode is HALTED or NORMAL as the halt flag gives, and the response gives the mode and the nest state. The model's choices in it: log entry 7. That the link status byte is shifted out once is log entry 8. -/
def Obligations.FaultAbandonLeavesTheFault : Prop :=
  ∀ s : State, configured s = true →
    (s.hfu.mode = .normal ∨ s.hfu.mode = .halted →
      exec (.faultAbandon (params [])) s = .next (answered 25 .wrongState [] s s)) ∧
    (s.hfu.mode = .fault → (∀ k : CheckIdx, (s.cke.checks[k]).state ≠ .settling ∧ (s.cke.checks[k]).state ≠ .opened) →
      ∃ t, exec (.faultAbandon (params [])) s =
        .next (answered 25 .ok [BitVec.ofNat 8 t.hfu.mode.code, BitVec.ofNat 8 t.ncu.nest.code] s t) ∧
      t.hfu = { s.hfu with mode := if haltFlag s.hfu then .halted else .normal, recState := .closed } ∧
      t.ncu = { s.ncu with nest := derivedNest s.ncu } ∧ anyClosed t.dsu = false ∧ t.dsu.switchOver = none ∧
      t.dsu.inrush = none ∧ t.dsu.powerWait = none ∧ t.dsu.ownClaim = .none ∧ t.dsu.claims = s.dsu.claims ∧
      stimulusSafe t = true ∧ (s.ncu.nest = .powered → t.stu.counter = .stopped ∧ t.vnp.port = .off) ∧
      (∀ c : CheckIdx, (t.cke.checks[c]).state.isArmed = false) ∧ t.cml = s.cml ∧ t.pins = s.pins)

/-- A fault cause in FAULT is LOCKOUT entry (R168): the second cause is recorded with the timebase value and the flag cleared, both switches are open, the stimulus is safe, the counter STOPPED and the port OFF, no check is armed, the prompt slot is empty, and LOCKOUT_ENTERED is the event posted last. A cause in LOCKOUT is counted, to no more than 255, and has no other effect (R169). -/
def Obligations.SecondCauseLocksOut : Prop :=
  ∀ (s : State) (c : Cause) (f : FaultEntry), configured s = true → s.hfu.entry = some f →
    (s.hfu.mode = .fault → (∀ k : CheckIdx, (s.cke.checks[k]).state ≠ .settling ∧ (s.cke.checks[k]).state ≠ .opened) →
      s.cml.events = [] →
      let t := raiseFault c s
      t.hfu = { s.hfu with mode := .lockout, entry := some { f with second := some (c, s.rcu.timebase), recoverable := false } } ∧
      t.ncu = s.ncu ∧ anyClosed t.dsu = false ∧ t.dsu.ownClaim = .none ∧ stimulusSafe t = true ∧
      t.stu.counter = .stopped ∧ t.vnp.port = .off ∧ (∀ k : CheckIdx, (t.cke.checks[k]).state.isArmed = false) ∧
      t.prs.slot = none ∧
      t.cml.events.getLast? = some { event := .lockoutEntered f.cause c, frame := s.stu.frame }) ∧
    (s.hfu.mode = .lockout →
      raiseFault c s = { s with hfu := { s.hfu with entry := some { f with later := min (f.later + 1) 255 } } })

/-! ## The supply (chapter 3) -/

/-- At the acceptance of a SLOT_CLAIM a sender that is not listed is appended at the tail with the frame's T_INRUSH, and a listed one keeps its position and takes it; at the acceptance of a SLOT_RELEASE the sender's entry is removed (R42). The expiry timers of the first S_EFF entries then run, each started at its T_INRUSH plus 50 ms where it was not running (R44). -/
def Obligations.ClaimFramesChangeTheList : Prop :=
  ∀ (s : State) (i : StationIdx) (b0 b1 : Byte), configured s = true →
    let given := 256 * b0.toNat + b1.toNat
    let run (cs : List ClaimEntry) : List ClaimEntry := cs.mapIdx (fun k e =>
      if k < s.rbc.sEff ∧ e.expiry = none then { e with expiry := some ((e.tInrush + 50) * 10000) } else e)
    (20 ≤ given → given ≤ 2000 → ∃ t, exec (.slotClaimAccepted i [b0, b1]) s = .next t ∧
      t.dsu.claims = run (if s.dsu.claims.any (fun e => decide (e.station = i)) then
          s.dsu.claims.map (fun e => if e.station = i then { e with tInrush := given } else e)
        else s.dsu.claims ++ [{ station := i, tInrush := given, fromBeacon := false, expiry := none }])) ∧
    (∃ t, exec (.slotReleaseAccepted i) s = .next t ∧
      t.dsu.claims = run (s.dsu.claims.filter (fun e => decide (e.station ≠ i))))

/-- The acceptance of the own SLOT_CLAIM, with the list shorter than S_EFF, grants the claim in one step (R44, R46, R47): the requested source is CLOSED, the power-wait timer stopped, the inrush window at T_INRUSH, the over-limit count 0, the claim GRANTED, the nest POWERED, and POWER_GRANTED is posted with the source and the ms waited. Entry into POWERED starts the port ACTIVE and the frame counter at 0 (R31, R73, R78). The timers of the claim (R44, R48, R49): at the expiry of the inrush window the claim ends and a SLOT_RELEASE is queued; at the expiry of the power-wait timer the claim is withdrawn, the nest is CLAMPED and POWER_WAIT_TIMEOUT is posted; at the expiry of an entry's timer the entry leaves the list. The model's choices in it: log entries 4, 10 and 15. -/
def Obligations.ClaimsAreGrantedAndExpire : Prop :=
  (∀ (s : State) (own : StationIdx) (r : Rail) (t0 a left : Nat), ready s → ownIdx s = some own →
    s.dsu.requested = some r → s.dsu.ownClaim = .waiting → s.ncu.nest = .powerWait → s.dsu.powerWait = some left →
    left ≤ 100000000 → (s.dsu.sw r).closed = false → s.stu.counter = .stopped →
    s.rbc.onLine = some .slotClaim → s.rbc.slot .slotClaim = .inFlight (.slotClaim t0) a none false →
    20 ≤ t0 → t0 ≤ 2000 → s.dsu.claims.length < s.rbc.sEff → s.dsu.claims.all (fun e => decide (e.station ≠ own)) = true →
    ∃ t, exec (.slotClaimAccepted own (be16 t0)) s = .next t ∧
      t.ncu = { s.ncu with nest := .powered } ∧ (t.dsu.sw r).closed = true ∧ t.dsu.sw (otherRail r) = s.dsu.sw (otherRail r) ∧
      t.dsu.powerWait = none ∧ t.dsu.inrush = some ((conf s).tInrush * 10000) ∧ t.dsu.overCount = 0 ∧
      t.dsu.ownClaim = .granted ∧ t.dsu.listed = true ∧ t.dsu.requested = some r ∧
      t.stu.frame = 0 ∧ t.stu.counter = .running ∧ t.stu.frameTimer = some ((conf s).frameMs * 10000) ∧
      t.vnp.port = .active ∧ t.vnp.tec = 0 ∧ t.vnp.recv = 0 ∧ t.vnp.scheduler = true ∧
      t.rbc.slot .slotClaim = .empty ∧ t.hfu = s.hfu ∧
      t.cml.events = postTo s.cml.events
        { event := .powerGranted r ((100000000 - left) / 10000), frame := 0 }) ∧
  (∀ (s : State) (left : Nat), ready s →
    let e := elapse left s
    (s.dsu.inrush = some left → exec .inrushWindowExpiry s = .next
      { e with dsu := { e.dsu with inrush := none, ownClaim := .none }, rbc := (e.rbc.request .slotRelease).1 }) ∧
    (∀ r, s.dsu.powerWait = some left → s.ncu.nest = .powerWait → s.dsu.ownClaim = .waiting → s.dsu.requested = some r →
      exec .powerWaitTimeout s = .next (post (.powerWaitTimeout r)
        { e with ncu := { e.ncu with nest := .clamped }
                 dsu := { e.dsu with ownClaim := .none, listed := false, powerWait := none }
                 rbc := (e.rbc.request .slotRelease).1 })) ∧
    (∀ i x, s.dsu.claims.find? (fun c => decide (c.station = i)) = some x → x.expiry = some left →
      ∃ t, exec (.claimExpiry i) s = .next t ∧
        t.dsu.claims.map (·.station) = (s.dsu.claims.map (·.station)).filter (fun j => decide (j ≠ i)) ∧
        (∀ c ∈ t.dsu.claims.take s.rbc.sEff, c.expiry.isSome = true)))

/-- The senses outside a switch-over (R37 to R39). Feedback that comes to agree ends the transition window and stops the mismatch timer; one that comes to disagree on a switch that is not being switched starts the mismatch timer at 5 ms; a window that expires with the mismatch standing starts it too, and one that expires without it does not. A source-good sense that goes false at a feeding source starts the loss timer at 5 ms, and its return stops it. The mismatch and loss timers expire with the severe causes SUPPLY_FEEDBACK and SUPPLY_LOST (R38, R39, R54): from NORMAL the station is in FAULT, with both switches open, the stimulus safe and the port OFF, and the record holds the cause and the rail. The model's choices in it: log entries 4 and 12. -/
def Obligations.SupplySensesAreWatched : Prop :=
  (∀ (s : State) (r : Rail), configured s = true → s.dsu.switchOver = none →
    let x := s.dsu.sw r
    let put (p : Pins) (y : Switch) : State := { s with pins := p, dsu := s.dsu.setSw r y }
    (feedback s r ≠ x.closed → exec (.switchFeedbackChange r x.closed) s =
      .next (put (setFeedback r x.closed s.pins) { x with window := none, mismatch := none })) ∧
    (feedback s r = x.closed → x.window = none → x.mismatch = none → exec (.switchFeedbackChange r (!x.closed)) s =
      .next (put (setFeedback r (!x.closed) s.pins) { x with mismatch := some 50000 })) ∧
    (feedback s r = x.closed → x.window.isSome = true → exec (.switchFeedbackChange r (!x.closed)) s =
      .next (put (setFeedback r (!x.closed) s.pins) x)) ∧
    (∀ left, x.window = some left → x.mismatch = none →
      let e := elapse left s
      let y : Switch := { e.dsu.sw r with window := none, mismatch := if feedback s r = x.closed then none else some 50000 }
      exec (.transitionWindowExpiry r) s = .next { e with dsu := e.dsu.setSw r y }) ∧
    (sourceGood s r = true → x.closed = true → exec (.sourceGoodChange r false) s =
      .next (put (setSourceGood r false s.pins) { x with loss := some 50000 })) ∧
    (sourceGood s r = false → exec (.sourceGoodChange r true) s =
      .next (put (setSourceGood r true s.pins) { x with loss := none }))) ∧
  (∀ (s : State) (r : Rail) (left : Nat), ready s →
    let severe (cause : Cause) (t : State) : Prop :=
      t.hfu.mode = .fault ∧ t.hfu.recState = .opened ∧ (∃ f, t.hfu.entry = some f ∧ f.cause = cause ∧
        f.mainClosed = s.dsu.main.closed ∧ f.auxClosed = s.dsu.aux.closed ∧ f.recoverable = false) ∧
      t.ncu.nest = s.ncu.nest ∧ anyClosed t.dsu = false ∧ stimulusSafe t = true ∧ t.vnp.port = .off
    ((s.dsu.sw r).mismatch = some left → ∃ t, exec (.mismatchTimerExpiry r) s = .next t ∧ severe (.supplyFeedback r) t) ∧
    ((s.dsu.sw r).loss = some left → ∃ t, exec (.lossTimerExpiry r) s = .next t ∧ severe (.supplyLost r) t))

/-- A current sample (R40, R41): a reading above 500,000 is stored as 500,000, the sample is the latest, the next one is due in 1 ms, and the OPEN CURRENT checks take it (R123). With a switch closed, a sample above the limit in force raises the over-limit count, and the one that brings it to TRIP_DELAY raises OVERCURRENT with the sample and the limit and sets the count to 0; any other sample sets it to 0. The shunt stands at the reading from then on, which is the model's choice (log entry 29). The model's other choices in it: log entry 4, and that a figure taken ahead of the opening event at its tick is not counted (log entry 22). -/
def Obligations.CurrentSamplesTrip : Prop :=
  ∀ (s : State) (reading : Nat), ready s → ∃ t, exec (.currentSample reading) s = .next t ∧
    let e := elapse s.dsu.sampleLeft s
    let x := min reading 500000
    let limit := if s.dsu.inrush.isSome then (conf s).iInrush * 100 else (conf s).iRun * 100
    let sampled (c : Check) : Check :=
      if c.state = .opened ∧ c.defn.kind = .current then
        handed (fun f => { f with sum := f.sum + x, number := f.number + 1 }) c
      else c
    t.dsu.latestSample = x ∧ t.dsu.sampleLeft = 10000 ∧ t.pins = { s.pins with current := reading } ∧
    (anyClosed s.dsu = true → limit < x → s.dsu.overCount + 1 < (conf s).tripDelay →
      t.dsu.overCount = s.dsu.overCount + 1 ∧ t.hfu = s.hfu ∧ t.cke = { e.cke with checks := vmap sampled e.cke.checks }) ∧
    (anyClosed s.dsu = true → limit < x → (conf s).tripDelay ≤ s.dsu.overCount + 1 →
      t.dsu.overCount = 0 ∧ t.hfu.mode = .fault ∧ anyClosed t.dsu = false ∧
      ∃ f, t.hfu.entry = some f ∧ f.cause = .overcurrent x limit) ∧
    ((anyClosed s.dsu = false ∨ x ≤ limit) → t.dsu.overCount = 0 ∧ t.hfu = s.hfu ∧
      t.cke = { e.cke with checks := vmap sampled e.cke.checks })

/-! ## The stimulus (chapter 4) -/

/-- SET_CHANNEL and SET_DISCRETES with timing NEXT or SECOND gather in their slots and change nothing else (R66 to R68); outside NORMAL both are refused with WRONG_STATE, bytes that R66 does not allow with RANGE (`updateAllowed`), and the update is that of the 25 bytes of 11.2 with the adjustments of R66 (`updateAsked`), answered with OK_ADJUSTED where one acts; an update with no field or a mask of 0 is taken with OK and stages nothing. SET_DISCRETES with timing NOW sets the masked outputs (R65), and is an apply event where an output changes, which the checks take as R118 and R124 state. HOLD_STAGING sets HOLD and RELEASE_STAGING clears it, in NORMAL, and each is refused with WRONG_STATE in any other mode (R71). The model's choices in it: WRONG_STATE ahead of RANGE for bytes that both tests refuse (log entry 17), a link byte above 1 as RANGE (log entry 18), OK_ADJUSTED without data (log entry 7), and that waiting checks leave their lists before a disturbed check releases its channel, and that disturbed checks are taken in ascending index (log entry 20). That the link status byte is shifted out once is log entry 8. -/
def Obligations.StimulusCommandsStageTheirUpdates : Prop :=
  ∀ s : State, configured s = true →
    (∀ bs : List Byte, bs.length = 25 → s.hfu.mode ≠ .normal →
      exec (.setChannel (params bs)) s = .next (answered 11 .wrongState [] s s)) ∧
    (∀ bs : List Byte, bs.length = 25 → s.hfu.mode = .normal → ¬updateAllowed bs →
      exec (.setChannel (params bs)) s = .next (answered 11 .range [] s s)) ∧
    (∀ (bs : List Byte) (i : ChannelIdx), bs.length = 25 → s.hfu.mode = .normal → updateAllowed bs → numAt bs 0 1 = i.val →
      let u := updateAsked bs
      let st : Status := if updateMoved bs then .okAdjusted else .ok
      (u = ChannelUpdate.none → exec (.setChannel (params bs)) s = .next (answered 11 .ok [] s s)) ∧
      (u ≠ ChannelUpdate.none → numAt bs 1 1 = 1 → exec (.setChannel (params bs)) s = .next (answered 11 st [] s
        { s with stu := { s.stu with next := vset s.stu.next i (stagedWith s.stu.next[i] u) } })) ∧
      (u ≠ ChannelUpdate.none → numAt bs 1 1 = 2 → exec (.setChannel (params bs)) s = .next (answered 11 st [] s
        { s with stu := { s.stu with second := vset s.stu.second i (stagedWith s.stu.second[i] u) } }))) ∧
    (∀ t m0 m1 v0 v1 : Byte,
      let m : BitVec 16 := m1 ++ m0
      let v : BitVec 16 := v1 ++ v0
      let cmd : Instr := .setDiscretes (params [t, m0, m1, v0, v1])
      (s.hfu.mode ≠ .normal → exec cmd s = .next (answered 12 .wrongState [] s s)) ∧
      (s.hfu.mode = .normal → 2 < t.toNat → exec cmd s = .next (answered 12 .range [] s s)) ∧
      (s.hfu.mode = .normal → t.toNat ≤ 2 → m = 0 → exec cmd s = .next (answered 12 .ok [] s s)) ∧
      (s.hfu.mode = .normal → t = 1 → m ≠ 0 → exec cmd s = .next (answered 12 .ok [] s
        { s with stu := { s.stu with groupNext := stagedDiscretes s.stu.groupNext m v } })) ∧
      (s.hfu.mode = .normal → t = 2 → m ≠ 0 → exec cmd s = .next (answered 12 .ok [] s
        { s with stu := { s.stu with groupSecond := stagedDiscretes s.stu.groupSecond m v } })) ∧
      (s.hfu.mode = .normal → t = 0 → m ≠ 0 →
        let outputs := (s.stu.discretes &&& ~~~m) ||| (v &&& m)
        let set : State := { s with stu := { s.stu with
          discretes := outputs, discreteStamp := some { frame := s.stu.frame, tick := s.rcu.timebase } } }
        (outputs = s.stu.discretes → exec cmd s = .next (answered 12 .ok [] s s)) ∧
        (outputs ≠ s.stu.discretes → applyPlain s → exec cmd s = .next (answered 12 .ok [] s (applied set))))) ∧
    exec (.holdStaging (params [])) s = .next (
      if s.hfu.mode = .normal then answered 13 .ok [] s { s with stu := { s.stu with hold := true } }
      else answered 13 .wrongState [] s s) ∧
    exec (.releaseStaging (params [])) s = .next (
      if s.hfu.mode = .normal then answered 14 .ok [] s { s with stu := { s.stu with hold := false } }
      else answered 14 .wrongState [] s s)

/-- SET_CHANNEL with timing NOW applies the update of its 25 bytes (11.2, R66) at its arrival (R68, R69): the fields present are stored, the working point of a FREQ or VALUE channel with slew 0 jumps to its target, the channel is realized by its mode (R57 to R59), and the gates are judged (R64). A change of mode, realized figure or link, and the start of a burst or pulse, is an apply event: it is stamped (R72), and the checks take it as R118 and R124 state. Any other application leaves the stamp and the checks. Staged updates, the other channels and the rest of the station stay as they were. The model's choices in it: log entry 18, OK_ADJUSTED without data (log entry 7), and that waiting checks leave their lists before a disturbed check releases its channel, and that disturbed checks are taken in ascending index (log entry 20). That the link status byte is shifted out once is log entry 8. -/
def Obligations.AnImmediateUpdateRealizesTheChannel : Prop :=
  ∀ (s : State) (bs : List Byte) (i : ChannelIdx), ready s → applyPlain s → bs.length = 25 → updateAllowed bs →
    numAt bs 0 1 = i.val → numAt bs 1 1 = 0 →
    let u := updateAsked bs
    u ≠ ChannelUpdate.none →
    ∃ t, exec (.setChannel (params bs)) s = .next (answered 11 (if updateMoved bs then .okAdjusted else .ok) [] s t) ∧
      let old := s.stu.channels[i]
      let new := t.stu.channels[i]
      let put : State := { s with stu := { s.stu with channels := t.stu.channels } }
      let burst : Prop := new.mode = .pulse ∧ (u.mode = some .pulse ∨ u.count.isSome = true) ∧ new.figures.isSome = true
      let shot : Prop := new.mode = .oneshot ∧ (u.mode = some .oneshot ∨ u.width.isSome = true)
      let event : Prop := old.mode ≠ new.mode ∨ old.realFreq ≠ new.realFreq ∨ old.realDuty ≠ new.realDuty ∨
        old.realValue ≠ new.realValue ∨ old.link ≠ new.link ∨ burst ∨ shot
      storedParams old new u ∧ realizedByMode new ∧
      (new.mode = .freq → new.slew = 0 → new.workFreq = new.freq) ∧
      (new.mode = .value → new.slew = 0 → new.workValue = new.value) ∧
      (new.mode = .freq → new.slew ≠ 0 → new.workFreq = if old.mode = .freq then old.workFreq else 0) ∧
      (new.mode = .value → new.slew ≠ 0 → new.workValue = if old.mode = .value then old.workValue else 0) ∧
      (event → new.stamp = some { frame := s.stu.frame, tick := s.rcu.timebase } ∧ t = applied put) ∧
      (¬event → new.stamp = old.stamp ∧ t = put) ∧
      (shot → new.drive = .shot new.width) ∧
      (∀ f, new.mode = .pulse → (u.mode = some .pulse ∨ u.count.isSome = true) → new.figures = some f →
        new.burst = some new.count ∧ new.drive = .wave f.1 f.2 f.1 (decide (0 < f.2))) ∧
      gatesJudged t.stu.channels ∧
      (∀ j, j ≠ i → t.stu.channels[j] = { s.stu.channels[j] with gated := (t.stu.channels[j]).gated })

/-- FRAME_BOUNDARY (R70, R73): the counter advances by one and its timer restarts at FRAME_MS; the checks with AT_FRAME at the new value start (R117). Unless HOLD is set, what stands in the NEXT slots is applied and what stands in the SECOND slots moves into them; under HOLD every slot keeps what it holds (R71). An application that changes a mode, a link or an output is an apply event at the checks (R118, R124), and with nothing applied there is none. A channel that no update reaches steps its ramp by its slew, no further than its target (R63). Stated where every armed check has a settle time. The model's choices in it: log entry 4, the order in which the NEXT slots are applied (log entry 18), and that waiting checks leave their lists before a disturbed check releases its channel, and that disturbed checks are taken in ascending index (log entry 20). -/
def Obligations.FrameBoundaryAppliesWhatIsStaged : Prop :=
  ∀ (s : State) (left : Nat), s.stu.frameTimer = some left →
    applyPlain (elapse left s) →
    (∀ i : CheckIdx, (s.cke.checks[i]).state.isArmed = true → (s.cke.checks[i]).defn.settle ≠ 0) →
    let e := elapse left s
    let at' : State := { e with stu := { e.stu with frame := s.stu.frame + 1 } }
    let begun : State := { at' with cke := { e.cke with checks := vmap (startedWhere at' (fun d =>
      d.cond = 1 ∧ d.condArg = (s.stu.frame + 1).toNat)) e.cke.checks } }
    let outputs := match s.stu.groupNext with
      | some g => (s.stu.discretes &&& ~~~g.mask) ||| (g.values &&& g.mask)
      | none => s.stu.discretes
    ∃ t, exec .frameBoundary s = .next t ∧
      (t = { begun with stu := t.stu } ∨ t = { applied begun with stu := t.stu }) ∧
      ((s.stu.hold = true ∨ ((∀ i : ChannelIdx, s.stu.next[i] = none) ∧ s.stu.groupNext = none)) →
        t = { begun with stu := t.stu }) ∧
      (s.stu.hold = false → (outputs ≠ s.stu.discretes ∨ (∃ (i : ChannelIdx) (u : ChannelUpdate), s.stu.next[i] = some u ∧
          ((∃ m, u.mode = some m ∧ m ≠ (s.stu.channels[i]).mode) ∨ (∃ l, u.link = some l ∧ l ≠ (s.stu.channels[i]).link)))) →
        t = { applied begun with stu := t.stu }) ∧
      t.stu.frame = s.stu.frame + 1 ∧ t.stu.sinceBoundary = 0 ∧ t.stu.frameTimer = some ((conf s).frameMs * 10000) ∧
      t.stu.counter = s.stu.counter ∧ t.stu.hold = s.stu.hold ∧ gatesJudged t.stu.channels ∧
      (s.stu.hold = true → t.stu.next = s.stu.next ∧ t.stu.second = s.stu.second ∧ t.stu.groupNext = s.stu.groupNext ∧
        t.stu.groupSecond = s.stu.groupSecond ∧ t.stu.discretes = s.stu.discretes) ∧
      (s.stu.hold = false → t.stu.next = s.stu.second ∧ (∀ i : ChannelIdx, t.stu.second[i] = none) ∧
        t.stu.groupNext = s.stu.groupSecond ∧ t.stu.groupSecond = none ∧ t.stu.discretes = outputs ∧
        (∀ (i : ChannelIdx) u, s.stu.next[i] = some u → storedParams (s.stu.channels[i]) (t.stu.channels[i]) u)) ∧
      (∀ i : ChannelIdx, (s.stu.hold = true ∨ s.stu.next[i] = none) →
        let c := s.stu.channels[i]
        let d := t.stu.channels[i]
        storedParams c d ChannelUpdate.none ∧
        (c.mode = .freq → d.workFreq = rampNat c.workFreq c.freq c.slew ∧ (c.workFreq ≠ c.freq → realizedByMode d)) ∧
        (c.mode = .value → d.workValue = rampInt c.workValue c.value c.slew ∧
          (c.workValue ≠ c.value → d.realValue = d.workValue)) ∧
        (c.mode ≠ .freq → c.mode ≠ .value → d = { (e.stu.channels[i]) with gated := d.gated }))

/-- The ends of a waveform on a timed output that its gate does not hold (R60 to R62). At the end of its high part the pin goes low for the rest of the period. At the end of a period the standing figures govern the next one, no figures stop it, and the remaining count of a burst falls by one, to its end. At the end of a one-shot pulse the pin is idle. The gates are judged after each (R64), and nothing but the time and the waveform changes. The model's choices in it: log entry 4. -/
def Obligations.WaveformsEndAsTheirFiguresSay : Prop :=
  ∀ (s : State) (i : TimedIdx),
    let n : ChannelIdx := i.castLE (by decide)
    let c := s.stu.channels[n]
    let changed (e t : State) (x : Channel → Channel) : Prop :=
      t = { e with stu := { e.stu with channels := t.stu.channels } } ∧ gatesJudged t.stu.channels ∧
      t.stu.channels[n] = { x (e.stu.channels[n]) with gated := (t.stu.channels[n]).gated } ∧
      (∀ j, j ≠ n → t.stu.channels[j] = { (e.stu.channels[j]) with gated := (t.stu.channels[j]).gated }) ∧
      (t.stu.channels[(0 : ChannelIdx)]).gated = (e.stu.channels[(0 : ChannelIdx)]).gated
    c.gated = false →
    (∀ p h left, c.drive = .wave p h left true → h < p →
      let e := elapse (left - (p - h)) s
      ∃ t, exec (.highPartEnd i) s = .next t ∧ changed e t (fun x => { x with drive := .wave p h (p - h) false })) ∧
    (∀ p h left level, c.drive = .wave p h left level → c.mode ≠ .pulse →
      let e := elapse left s
      ∃ t, exec (.periodEnd i) s = .next t ∧ changed e t (fun x => { x with drive :=
        match c.figures with
        | some f => .wave f.1 f.2 f.1 (decide (0 < f.2))
        | none => .off })) ∧
    (∀ p h left level k, c.drive = .wave p h left level → c.mode = .pulse → c.burst = some k →
      let e := elapse left s
      ∃ t, exec (.periodEnd i) s = .next t ∧ changed e t (fun x =>
        if k ≤ 1 then { x with burst := none, drive := .off }
        else { x with burst := some (k - 1), drive :=
          match c.figures with
          | some f => .wave f.1 f.2 f.1 (decide (0 < f.2))
          | none => .off })) ∧
    (∀ left, c.drive = .shot left →
      let e := elapse left s
      ∃ t, exec (.oneshotEnd i) s = .next t ∧ changed e t (fun x => { x with drive := .off }))

/-! ## The vehicle network (chapter 5) -/

/-- An instance falls due at VN_DUE_TIME, whose due time then moves on by one period (R85), and at VN_SEND_ONCE, which needs an enabled slot and a port that is ACTIVE or PASSIVE (R91). Nothing but the slot, and the time at a due time, changes. The model's choices in it: log entry 4, and RANGE for an index of 24 or more on a port that is not live (log entry 17). That the link status byte is shifted out once is log entry 8. -/
def Obligations.InstancesFallDue : Prop :=
  (∀ (s : State) (i : TxSlotIdx) (left : Nat), (s.vnp.slots[i]).due = some left →
    let e := elapse left s
    let v := e.vnp.slots[i]
    exec (.vnDueTime i) s = .next { e with vnp := { e.vnp with
      slots := vset e.vnp.slots i (dueSlot { v with due := some (v.period * 10000) } (boundSource s v)) } }) ∧
  (∀ (s : State) (b : Byte), configured s = true → (s.hfu.mode = .normal ∨ s.hfu.mode = .halted) →
    (∀ i : TxSlotIdx, b.toNat = i.val → (s.vnp.slots[i]).enable = true → portLive s →
      exec (.vnSendOnce (params [b])) s = .next (answered 15 .ok [] s { s with vnp := { s.vnp with
        slots := vset s.vnp.slots i (dueSlot (s.vnp.slots[i]) (boundSource s (s.vnp.slots[i]))) } })) ∧
    (∀ i : TxSlotIdx, b.toNat = i.val → ((s.vnp.slots[i]).enable = false ∨ ¬portLive s) →
      exec (.vnSendOnce (params [b])) s = .next (answered 15 .wrongState [] s s)) ∧
    (24 ≤ b.toNat → exec (.vnSendOnce (params [b])) s = .next (answered 15 .range [] s s)))

/-- VN_LINE_FREE (R90): on a live port with no attempt on the line, the PENDING instance that orders first goes on the line, of equal ones the lowest slot, and the port drives its frame; with none PENDING, or no live port, nothing happens. Identifiers order by their first 11 bits, then STANDARD before EXTENDED, then by the whole identifier (5.1). -/
def Obligations.LineFreeSendsTheFirstInOrder : Prop :=
  (∀ a b : VnSlot, a.identifier < (if a.extended then 536870912 else 2048) →
    b.identifier < (if b.extended then 536870912 else 2048) →
    let top (v : VnSlot) : Nat := if v.extended then v.identifier / 262144 else v.identifier
    (a.order < b.order ↔ top a < top b ∨ (top a = top b ∧ ((a.extended = false ∧ b.extended = true) ∨
      (a.extended = b.extended ∧ a.identifier < b.identifier))))) ∧
  (∀ (s : State) (i : TxSlotIdx) (x : BitVec 64), portLive s →
    (∀ (j : TxSlotIdx) y d, (s.vnp.slots[j]).inst ≠ .onLine y d) → (s.vnp.slots[i]).inst = .pending x →
    (∀ (j : TxSlotIdx) y, (s.vnp.slots[j]).inst = .pending y →
      (s.vnp.slots[i]).order < (s.vnp.slots[j]).order ∨ ((s.vnp.slots[i]).order = (s.vnp.slots[j]).order ∧ i ≤ j)) →
    let v := s.vnp.slots[i]
    exec .vnLineFree s = .next { s with vnp := { s.vnp with
      slots := vset s.vnp.slots i { v with inst := .onLine x false }
      driven := some (vnFrameBits v.extended v.identifier (payloadBytes x v.length)) } }) ∧
  (∀ s : State, (¬portLive s ∨ (∃ (j : TxSlotIdx) (y : BitVec 64) (d : Bool), (s.vnp.slots[j]).inst = .onLine y d) ∨
      (∀ (j : TxSlotIdx) y, (s.vnp.slots[j]).inst ≠ .pending y)) →
    exec .vnLineFree s = .next s)

/-- VN_ATTEMPT_END (R79, R81, R84, R89). TEC moves by the outcome. After a success the slot counts one more sent and a held refresh becomes its next instance; after any other outcome the instance is PENDING again, with a held refresh placed in it; an attempt detached by a rewrite leaves the slot's own count and takes no instance back. A TEC of 256 or more puts the port in BUS_OFF, with every instance gone, and raises VN_BUS_OFF. The model's choices in it: log entry 19. -/
def Obligations.AttemptsEnd : Prop :=
  ∀ (s : State) (i : TxSlotIdx) (x : BitVec 64) (detached : Bool) (outcome : AttemptEnd), portLive s →
    (s.vnp.slots[i]).inst = .onLine x detached → (∀ (j : TxSlotIdx) y d, (s.vnp.slots[j]).inst = .onLine y d → j = i) →
    let v := s.vnp.slots[i]
    let tec := match outcome with
      | .success => s.vnp.tec - 1
      | .arbitrationLoss => s.vnp.tec
      | .transmitError => s.vnp.tec + 8
      | .unacknowledged => if s.vnp.tec < 128 then s.vnp.tec + 8 else s.vnp.tec
    let after : VnSlot := match v.held with
      | some e => { builtInstance v e with held := none }
      | none => { v with inst := .none }
    let slot : VnSlot :=
      if detached = true then after
      else if outcome = .success then { after with sent := (v.sent + 1) % 65536 }
      else { v with held := none, inst := .pending (match v.bound, v.held with
        | some f, some (some n) => placeBound x f n
        | _, _ => x) }
    let flag : Option (List Bool) := if outcome = .transmitError then
        some (List.replicate 6 (!decide (s.vnp.port = .active)) ++ List.replicate 8 true) else none
    (tec < 256 → exec (.vnAttemptEnd outcome) s = .next (judgedPort
      { s with vnp := { s.vnp with tec := tec, driven := flag, slots := vset s.vnp.slots i slot } })) ∧
    (256 ≤ tec → ready s → ∃ t f, exec (.vnAttemptEnd outcome) s = .next t ∧
      t.vnp.port = .busOff ∧ t.vnp.tec = 256 ∧ t.vnp.recv = s.vnp.recv ∧ t.vnp.scheduler = false ∧
      (∀ j : TxSlotIdx, (t.vnp.slots[j]).inst = .none ∧ (t.vnp.slots[j]).due = none) ∧
      t.hfu.mode = .fault ∧ t.hfu.entry = some f ∧ f.cause = .vnBusOff 256 s.vnp.recv)

/-- Reception (R80, R92 to R94) on a port that is ACTIVE or PASSIVE with TEC below 256. A good frame is acknowledged with one dominant bit and lowers REC by one, to no less than 0. A data frame then takes the next sequence value, joins the ring, whose oldest of 32 entries leaves, and becomes the latest record of the first filter that takes it, whose hit the OPEN VN_FIELD checks on that filter take (R123); a remote frame is not stored. A receive error raises REC by one, to no more than 255, and drives an error flag. Any other port takes nothing. The model's choices in it: log entries 4 and 19, the offset of a frame in whole µs, rounded down and no more than 999,999 (log entry 28), and that a figure taken ahead of the opening event at its tick is not counted (log entry 22). -/
def Obligations.ReceivedFramesAreStored : Prop :=
  ∀ (s : State) (after : Nat) (f : VnFrame),
    let e := elapse after s
    (portLive s → s.vnp.tec < 256 →
      let u := judgedPort { e with vnp := { e.vnp with recv := e.vnp.recv - 1, driven := some [false] } }
      (f.remote = true → exec (.vnFrameReceived after f) s = .next u) ∧
      (f.remote = false →
        let data := (f.data ++ List.replicate 8 0).take (min 8 f.lengthCode)
        let offset := min 999999 (u.stu.sinceBoundary / 10)
        let hit : Option FilterIdx := (List.finRange 16).find? (fun i =>
          decide ((u.vnp.filters[i]).format = if f.extended then .extended else .standard) &&
            decide (((u.vnp.filters[i]).identifier ^^^ BitVec.ofNat 32 f.identifier) &&& (u.vnp.filters[i]).mask = 0))
        let entry : RingEntry := { seq := u.vnp.nextSeq, extended := f.extended, identifier := f.identifier, data := data
                                   filter := hit, frame := u.stu.frame, offset := offset }
        let latest : LatestRecord := { identifier := f.identifier, data := data, seq := u.vnp.nextSeq
                                       frame := u.stu.frame, offset := offset }
        let stored : State := { u with vnp := { u.vnp with
          nextSeq := (u.vnp.nextSeq + 1) % 65536
          ring := (if 32 ≤ u.vnp.ring.length then u.vnp.ring.drop 1 else u.vnp.ring) ++ [entry] } }
        let takes (i : FilterIdx) (c : Check) : Check :=
          let x : Hit := { filter := i, identifier := f.identifier, data := data, tick := u.rcu.timebase }
          if c.state = .opened ∧ c.defn.kind = .vnField ∧ c.defn.rxFilter = i.val then
            handed (fun r => { r with hit := some x }) c
          else c
        (hit = none → exec (.vnFrameReceived after f) s = .next stored) ∧
        (∀ i, hit = some i →
          let filters := vset u.vnp.filters i { (u.vnp.filters[i]) with latest := some latest }
          exec (.vnFrameReceived after f) s = .next { stored with
            vnp := { stored.vnp with filters := filters }, cke := { u.cke with checks := vmap (takes i) u.cke.checks } })) ∧
      exec .vnReceiveError s = .next (judgedPort { s with vnp := { s.vnp with
        recv := min 255 (s.vnp.recv + 1)
        driven := some (List.replicate 6 (!decide (s.vnp.port = .active)) ++ List.replicate 8 true) } })) ∧
    (¬portLive s → exec (.vnFrameReceived after f) s = .next e ∧ exec .vnReceiveError s = .next s)

/-! ## Response capture (chapter 6) -/

/-- The edges accepted on a set of lines at one tick are one line event (R97, R99 to R103): each of the lines changes its level and takes the stamp as its last edge, every other line stays, and every pattern group is judged once with the levels after it. Each group that matches is handed to the checks (R102): those with ON_MATCH of it start (R117), and the OPEN PATTERN checks of it count one match (R123). Nothing else changes but the comparator outputs that made the edges. Stated where the checks that start settle plainly. The model's choices in it: log entries 4, 5, 21 and 24; and that the match after the 16,777,215th sets OVERRANGE in an open PATTERN check (`oneMatch`), which R123 leaves open with 'OVERRANGE at saturation', and that a figure taken ahead of the opening event at its tick is not counted (log entry 22). -/
def Obligations.LineEdgesAreOneEvent : Prop :=
  ∀ (s : State) (after : Nat) (lines : BitVec 16), startsPlainly s 2 → lines ≠ 0 →
    let e := elapse after s
    let level (i : LineIdx) : Bool := if lines.getLsbD i.val then !(e.rcu.lines[i]).level else (e.rcu.lines[i]).level
    let hit (n : Nat) : Bool := (List.finRange 4).any (fun g => decide (g.val = n) && groupMatches (e.rcu.groups[g]) lines level)
    let started (c : Check) : Check := startedWhere e (fun d => d.cond = 2 ∧ hit d.condArg = true) c
    let counts (c : Check) : Bool := decide (c.defn.kind = .pattern) && hit c.defn.group &&
      (decide (c.state = .opened) || (decide ((started c).state = .opened) && decide (c.defn.condArg ≤ c.defn.group)))
    ∃ t, exec (.lineEdgeAccepted after lines) s = .next t ∧
      t = { e with pins := { e.pins with obs := t.pins.obs }
                   rcu := { e.rcu with lines := t.rcu.lines, groups := t.rcu.groups }
                   cke := { e.cke with checks := vmap (fun c =>
                     if counts c then handed oneMatch (started c) else started c) e.cke.checks } } ∧
      (∀ i : LineIdx, t.rcu.lines[i] = if lines.getLsbD i.val then
          { (e.rcu.lines[i]) with level := level i, run := 0
                                  lastEdge := some { tick := e.rcu.timebase, rise := level i } }
        else e.rcu.lines[i]) ∧
      (∀ g : GroupIdx, t.rcu.groups[g] =
        groupAfter (e.rcu.groups[g]) lines level { tick := e.rcu.timebase, frame := e.stu.frame }) ∧
      (∀ i : LineIdx, lines.getLsbD i.val = false → t.pins.obs.getLsbD i.val = e.pins.obs.getLsbD i.val)

/-- A channel edge of a lent measurement channel (R105, R106, R108). Every edge changes the channel level. Inside the open window of a COUNT channel a reference edge counts one, and at 16,777,215 sets OVERRANGE; the one that reaches the threshold posts COUNT_THRESHOLD with its stamp and starts the checks with ON_THRESHOLD of the holder (R117). An edge of the other direction changes the level alone. Inside the window of a FREQ_DUTY channel every edge sets the edge-seen mark; the first reference edge sets the first stamp, and each later one counts a period and takes its stamp and the running high time, or sets OVERRANGE at 16,777,215. With no open window the level alone changes; an edge at or after the close tick is kept for the next window; a FREE channel takes none. The model's choices in it: log entries 4 and 5. -/
def Obligations.ChannelEdgesAreMeasured : Prop :=
  ∀ (s : State) (after : Nat) (m : MeasIdx),
    let e := elapse after s
    let now := e.rcu.timebase
    let cmd : Instr := .channelEdge after m
    (e.rcu.meas[m] = none → exec cmd s = .next e) ∧
    (∀ l : Lent, e.rcu.meas[m] = some l →
      let put (x : Lent) (t : State) : Prop :=
        t = { e with pins := { e.pins with obs := t.pins.obs }, rcu := { e.rcu with meas := vset e.rcu.meas m (some x) } }
      let turned : Lent := { l with level := !l.level, run := 0 }
      (l.window = none → ∃ t, exec cmd s = .next t ∧ put turned t) ∧
      (∀ w : MeasWindow, l.window = some w → w.span ≤ (now - w.openTick).toNat →
        ∃ t, exec cmd s = .next t ∧ put { turned with late := l.late ++ [now] } t) ∧
      (∀ w : MeasWindow, l.window = some w → (now - w.openTick).toNat < w.span →
        let becomes (u : MeasWindow) : Prop := ∃ t, exec cmd s = .next t ∧ put { turned with window := some u } t
        let high := if w.first.isSome && l.level then w.runHigh + (now - w.runTick).toNat else w.runHigh
        let seen : MeasWindow := { w with edgeSeen := true, runHigh := high, runTick := now }
        (l.counts = true → l.level = l.rise → becomes w) ∧
        (l.counts = true → l.level ≠ l.rise → 16777215 ≤ w.count → becomes { w with overrange := true }) ∧
        (l.counts = true → l.level ≠ l.rise → w.count < 16777215 → (l.theta ≠ some (w.count + 1) ∨ w.reached = true) →
          becomes { w with count := w.count + 1 }) ∧
        (l.counts = true → l.level ≠ l.rise → w.count < 16777215 → l.theta = some (w.count + 1) → w.reached = false →
          startsPlainly s 3 →
          let u : Lent := { turned with window := some { w with count := w.count + 1, reached := true } }
          let begun := vmap (startedWhere e (fun d => d.cond = 3 ∧ d.condArg = l.holder.val)) e.cke.checks
          let posted := postTo e.cml.events { event := .countThreshold l.holder m now, frame := e.stu.frame }
          ∃ t, exec cmd s = .next t ∧
            t = { e with pins := { e.pins with obs := t.pins.obs }, rcu := { e.rcu with meas := vset e.rcu.meas m (some u) }
                         cml := { e.cml with events := posted }, cke := { e.cke with checks := begun } }) ∧
        (l.counts = false → l.level = l.rise → becomes seen) ∧
        (l.counts = false → l.level ≠ l.rise → w.first = none →
          becomes { seen with first := some now, last := now, runHigh := 0 }) ∧
        (l.counts = false → l.level ≠ l.rise → w.first.isSome = true → w.n < 16777215 →
          becomes { seen with n := w.n + 1, last := now, h := high }) ∧
        (l.counts = false → l.level ≠ l.rise → w.first.isSome = true → 16777215 ≤ w.n →
          becomes { seen with overrange := true })))

/-! ## The checks (chapter 7) -/

/-- ARM_CHECKS (R116, R117) is refused with WRONG_STATE outside NORMAL or POWERED, with BUSY where a check of the set is armed, and with RANGE where one has no kind. Taken, the arming sequence rises by one, the checks of the set leave the test record, and each is ARMED with a fresh run-time part. One whose start condition is met then starts: ON_ARM, AT_FRAME at or below the frame counter, AFTER a check that is neither armed nor in the set. Stated where the checks that start settle plainly. The model's choices in it: log entries 17 and 22. That the link status byte is shifted out once is log entry 8. -/
def Obligations.ArmingStartsTheChecksOfTheSet : Prop :=
  ∀ (s : State) (bs : List Byte), configured s = true → (s.hfu.mode = .normal ∨ s.hfu.mode = .halted) → bs.length = 6 →
    let arm : Instr := .armChecks (params bs)
    let armed : Prop := ∃ i : CheckIdx, marked bs i = true ∧ (s.cke.checks[i]).state.isArmed = true
    let undefined : Prop := ∃ i : CheckIdx, marked bs i = true ∧ (s.cke.checks[i]).defn.kind = .none
    let met (d : CheckDef) : Bool := decide (d.cond = 0) || (decide (d.cond = 1) && decide (d.condArg ≤ s.stu.frame.toNat)) ||
      (decide (d.cond = 4) && (List.finRange 48).any (fun j =>
        decide (d.condArg % 48 = j.val) && !marked bs j && !(s.cke.checks[j]).state.isArmed))
    (¬(s.hfu.mode = .normal ∧ s.ncu.nest = .powered) → exec arm s = .next (answered 17 .wrongState [] s s)) ∧
    (s.hfu.mode = .normal → s.ncu.nest = .powered → armed → exec arm s = .next (answered 17 .busy [] s s)) ∧
    (s.hfu.mode = .normal → s.ncu.nest = .powered → ¬armed → undefined → exec arm s = .next (answered 17 .range [] s s)) ∧
    (s.hfu.mode = .normal → s.ncu.nest = .powered → ¬armed → ¬undefined →
      (∀ i : CheckIdx, marked bs i = true → met (s.cke.checks[i]).defn = true → settlesPlainly s.cke.checks[i]) →
      let fresh : RunPart := { armSeq := s.cke.armSeq + 1, start := none, settle := none, deadline := none
                               waiting := false, samples := [], window := none }
      let after (c : Check) : Check :=
        let x : Check := { c with state := .armed, run := some fresh }
        if met c.defn then startedNow s x else x
      exec arm s = .next (answered 17 .ok [] s { s with cke := { s.cke with
        armSeq := s.cke.armSeq + 1
        record := s.cke.record.filter (fun e => !marked bs e.check)
        checks := Vector.ofFn (fun i => if marked bs i then after (s.cke.checks[i]) else s.cke.checks[i]) } }))

/-- DISARM_CHECKS aborts the armed checks of its set with cause DISARM, in ascending index order, and answers their number; each takes its place at the tail of the test record with verdict ABORTED, its samples kept (R131, R133). A channel that one of them holds is free, and the prompt of one that holds the slot is cancelled (R121, R141). The checks outside the set that wait AFTER one of them start (R117); any other check outside the set, and a check that is not armed, stays as it is. Stated where the checks that start settle plainly and no check outside the set waits for a channel or the slot. The model's choices in it: log entry 20. That the link status byte is shifted out once is log entry 8. -/
def Obligations.DisarmingAbortsTheChecksOfTheSet : Prop :=
  ∀ (s : State) (bs : List Byte), configured s = true → (s.hfu.mode = .normal ∨ s.hfu.mode = .halted) → bs.length = 6 →
    lendLaw s = true → startsPlainly s 4 → (∀ i : CheckIdx, waitsAs s (fun _ => true) i = true → marked bs i = true) →
    let hit := (List.finRange 48).filter (fun i => marked bs i && (s.cke.checks[i]).state.isArmed)
    let after (c : Check) : Check := startedWhere s (fun d => d.cond = 4 ∧ ∃ j ∈ hit, d.condArg = j.val) c
    ∃ t added, exec (.disarmChecks (params bs)) s = .next (answered 18 .ok [BitVec.ofNat 8 hit.length] s t) ∧
      t = { s with cke := { s.cke with checks := t.cke.checks, record := s.cke.record ++ added }
                   rcu := { s.rcu with meas := vmap (fun x => x.filter (fun l => decide (l.holder ∉ hit))) s.rcu.meas }
                   prs := t.prs, rbc := t.rbc } ∧
      (∀ i : CheckIdx, t.cke.checks[i] =
        if i ∈ hit then { s.cke.checks[i] with state := .aborted, run := none } else after s.cke.checks[i]) ∧
      (∀ p i, s.prs.slot = some p → p.holder = some i → i ∈ hit →
        t.prs = { s.prs with slot := none, closedTag := some p.tag } ∧ t.rbc = (s.rbc.request (.promptCancel p.tag)).1) ∧
      ((∀ i ∈ hit, s.prs.slot.map (·.holder) ≠ some (some i)) → t.prs = s.prs ∧ t.rbc = s.rbc) ∧
      added.map (·.check) = hit ∧
      (∀ x ∈ added, x.kind = (s.cke.checks[x.check]).defn.kind ∧ x.result.verdict = .aborted ∧
        x.result.cause = some .disarm ∧ x.result.samples = taken s.cke.checks[x.check] ∧
        x.result.frame = s.stu.frame ∧ x.result.tick = s.rcu.timebase)

/-- CLEAR_RESULTS empties the test record, makes every DONE or ABORTED check IDLE, and answers the number of entries removed; the verdict and serial stay (R134). PUBLISH_RESULT counts the verdicts of the record, judges the station verdict (FAIL before INCOMPLETE before MARGINAL before PASS; an empty record is INCOMPLETE), stores it with the next serial, queues a RESULT with both and the counts, and answers the same figures (R135). In FAULT and LOCKOUT both are refused with WRONG_STATE. How often MISO shifts out the link status byte is left open. -/
def Obligations.ResultsAreClearedAndPublished : Prop :=
  (∀ s : State, configured s = true → (s.hfu.mode = .fault ∨ s.hfu.mode = .lockout) →
    answersAs (exec (.clearResults (params [])) s) 19 .wrongState [] s s ∧
    answersAs (exec (.publishResult (params [])) s) 20 .wrongState [] s s) ∧
  (∀ s : State, configured s = true → (s.hfu.mode = .normal ∨ s.hfu.mode = .halted) →
    (∃ t, answersAs (exec (.clearResults (params [])) s) 19 .ok [BitVec.ofNat 8 s.cke.record.length] s t ∧
      t = { s with cke := { s.cke with record := [], checks := t.cke.checks } } ∧
      (∀ i : CheckIdx, t.cke.checks[i] =
        if (s.cke.checks[i]).state = .done ∨ (s.cke.checks[i]).state = .aborted then
          { s.cke.checks[i] with state := .idle } else s.cke.checks[i])) ∧
    (let count (v : Verdict) : Nat := s.cke.record.countP (fun e => decide (e.result.verdict = v))
     let serial := (s.cke.serial + 1) % 256
     let verdict : StationVerdict :=
       if count .fail ≠ 0 then .fail else if count .invalid ≠ 0 ∨ count .aborted ≠ 0 then .incomplete
       else if count .marginal ≠ 0 then .marginal else if count .pass ≠ 0 then .pass else .incomplete
     let counts : Counts := { pass := count .pass, marginal := count .marginal, fail := count .fail
                              invalid := count .invalid, aborted := count .aborted }
     answersAs (exec (.publishResult (params [])) s) 20 .ok
       ([serial, verdict.code, count .pass, count .marginal, count .fail, count .invalid, count .aborted].map (BitVec.ofNat 8)) s
       { s with cke := { s.cke with verdict := some verdict, serial := serial }
                rbc := (s.rbc.request (.result serial verdict counts)).1 }))

/-- The settle timer of a SETTLING check expires (R118, R120, R122). A LEVEL, PATTERN, VN_FIELD or CURRENT check opens its first window of W ms. A FREQ, DUTY or COUNT check joins the wait list of its channel, and the channel, where it is FREE, is lent to the first of the list, which opens at this tick. An OPERATOR check waits for the prompt slot, which, where it is empty, goes to the first that waits, and opens with its request sent (R125). A request that the transmitter discards ends its check at once, INVALID with TIMEOUT (R138). The model's choices in it: log entry 4. -/
def Obligations.SettledChecksOpen : Prop :=
  ∀ (s e : State) (i : CheckIdx) (left : Nat) (c : Check) (d : CheckDef) (r : RunPart) (m : MeasIdx),
    e = elapse left s → c = e.cke.checks[i] → d = c.defn → m = Fin.ofNat 4 d.channel →
    (s.cke.checks[i]).run.bind (·.settle) = some left → c.state = .settling → c.run = some r →
    let put (x : Check) : State := { e with cke := { e.cke with checks := vset e.cke.checks i x } }
    let waiting : State := put { c with run := some { r with settle := none, waiting := true } }
    (opensAlone d.kind = true → exec (.settleTimerExpiry i) s = .next (put (openedNow e c))) ∧
    (needsChannel d.kind = true → exec (.settleTimerExpiry i) s = .next (lentOn m waiting)) ∧
    (needsChannel d.kind = true → (e.rcu.meas[m]).isSome = true → exec (.settleTimerExpiry i) s = .next waiting) ∧
    (needsChannel d.kind = true → e.rcu.meas[m] = none → firstWaiting waiting (fun x => needsChannel x.kind &&
        decide (Fin.ofNat 4 x.channel = m)) = some i → ∃ t, exec (.settleTimerExpiry i) s = .next t ∧
      t.rcu.meas[m] = some (lentNow e i d) ∧ t.cke.checks[i] = openedNow e c) ∧
    (d.kind = .operator → s.prs.slot.isSome = true → exec (.settleTimerExpiry i) s = .next waiting) ∧
    (d.kind = .operator → s.rbc.tx.off = false → exec (.settleTimerExpiry i) s = .next (slotTaken waiting)) ∧
    (d.kind = .operator → s.rbc.tx.off = true → s.prs.slot = none → (∀ j, waitsAs waiting asksOperator j = true → j = i) →
      lendLaw s = true → startsPlainly s 4 →
      let closed : Prs := { e.prs with tagCounter := e.prs.tagCounter + 1, closedTag := some e.prs.tagCounter }
      let timeout : Sample := { verdict := .invalid, eng := none, flags := { Flags.none with timeout := true } }
      exec (.settleTimerExpiry i) s = .next (endedNow { e with prs := closed } i (r.samples ++ [timeout]) Flags.none))

/-- The deadline of a SETTLING check expires (R119): the check ends DONE with the flag LATE. The window of an OPEN check of any kind but OPERATOR closes (R122, R123): the raw figure of its kind, with its source's flags, is judged, and the sample joins the list. With K samples the check ends DONE, and its channel is free and lent on (R121); otherwise the next window opens at the close tick, on its channel too. An ending joins the test record, posts CHECK_DONE and starts the checks that wait AFTER it (R117, R129, R130). Stated where those settle plainly; of a next window, where no apply event and no channel edge has come since the close tick. The model's choices in it: log entry 4. -/
def Obligations.DeadlinesAndWindowsEnd : Prop :=
  ∀ (s e : State) (i : CheckIdx) (left : Nat) (c : Check) (d : CheckDef) (r : RunPart) (m : MeasIdx),
    e = elapse left s → c = e.cke.checks[i] → d = c.defn → m = Fin.ofNat 4 d.channel → c.run = some r →
    lendLaw s = true → startsPlainly s 4 →
    ((s.cke.checks[i]).run.bind (·.deadline) = some left → c.state = .settling →
      exec (.deadlineExpiry i) s = .next (endedNow e i r.samples { Flags.none with late := true }) ∧
      (r.samples = [] → d.samples ≠ 0 → (doneEntry e i r.samples { Flags.none with late := true }).result.verdict = .invalid)) ∧
    (∀ w mw, r.window = some w → (s.cke.checks[i]).run.bind (fun x => x.window.bind (·.left)) = some left →
      c.state = .opened → d.kind ≠ .operator → d.kind ≠ .none →
      (needsChannel d.kind = true → (e.rcu.meas[m]).bind (·.window) = some mw) →
      let figure := closingFigure e d w mw
      let samples := r.samples ++ [judgeSample d w.ref figure.1 figure.2]
      let freed : State := { e with rcu := { e.rcu with meas := vset e.rcu.meas m none } }
      (d.samples ≤ samples.length → exec (.windowClose i) s = .next (
        if needsChannel d.kind then lentOn m (endedNow freed i samples Flags.none) else endedNow e i samples Flags.none)) ∧
      (samples.length < d.samples → w.spillApply = false →
        (∀ l, needsChannel d.kind = true → e.rcu.meas[m] = some l → l.late = []) →
        let openTick := w.openTick + BitVec.ofNat 32 (d.window * 10000)
        let next : CheckWindow :=
          { openTick := openTick, left := some (d.window * 10000 - (e.rcu.timebase - openTick).toNat)
            ref := openingRef e d, raw := w.spill, spill := nothingYet, spillApply := false }
        let again : Check := { c with run := some { r with samples := samples, window := some next } }
        let reopened (l : Lent) : Lent := { l with window := some (channelWindow openTick (d.window * 10000) l.level) }
        let meas := if needsChannel d.kind then vset e.rcu.meas m ((e.rcu.meas[m]).map reopened) else e.rcu.meas
        exec (.windowClose i) s = .next
          { e with cke := { e.cke with checks := vset e.cke.checks i again }, rcu := { e.rcu with meas := meas } }))

/-- The arithmetic of samples and endings (R126 to R129). A valid sample's eng value is the raw figure times M / D, rounded half away from zero, plus O, clamped to 32 bits, with SATURATED as the clamp acted; it is PASS within the band less its guard, MARGINAL in the rest of the band, and FAIL outside it. An ending is INVALID with fewer than half of K valid samples, and otherwise takes the worst valid verdict. Its value is the mean of the valid eng values rounded half away from zero, its minimum and maximum are the least and the greatest of them, between which the value lies, and all three are absent without a valid sample; its flags are those of all its samples and of the ending together. -/
def Obligations.SamplesAndEndingsAreJudged : Prop :=
  (∀ (d : CheckDef) (ref : Option Int) (raw : Int) (f : Flags), d.d ≠ 0 →
    let x := judgeSample d ref raw f
    let c := ref.getD 0
    let half (p : Nat) : Int := ((2 * (c.natAbs * p) + 10000) / 20000 : Nat)
    let lo : Int := if d.track then c - (d.limLo + half d.pctLo) else d.limLo
    let hi : Int := if d.track then c + (d.limHi + half d.pctHi) else d.limHi
    let g : Int := if hi - lo < 2 * d.guard then (hi - lo) / 2 else d.guard
    (f.noSignal = true ∨ f.disturbed = true ∨ f.timeout = true → x = { verdict := .invalid, eng := none, flags := f }) ∧
    (f.noSignal = false → f.disturbed = false → f.timeout = false → ∃ q : Int,
      2 * (q * d.d - raw * d.m).natAbs ≤ d.d ∧
      (2 * (q * d.d - raw * d.m).natAbs = d.d → (raw * d.m).natAbs ≤ (q * d.d).natAbs) ∧
      let eng : Int := max (-2147483648) (min 2147483647 (q + d.o))
      x.eng = some eng ∧
      x.flags = { f with saturated := decide (eng ≠ q + d.o), guardClamped := decide (hi - lo < 2 * d.guard) } ∧
      x.verdict = if lo + g ≤ eng ∧ eng ≤ hi - g then .pass else if lo ≤ eng ∧ eng ≤ hi then .marginal else .fail)) ∧
  (∀ (k : Nat) (samples : List Sample), (∀ x ∈ samples, x.verdict ≠ .aborted) →
    let valid := samples.filter (fun x => decide (x.verdict ≠ .invalid))
    let worst (v : Verdict) : Prop := ∃ x ∈ valid, x.verdict = v
    (2 * valid.length < k → aggregateVerdict k samples = .invalid) ∧
    (k ≤ 2 * valid.length → (worst .fail → aggregateVerdict k samples = .fail) ∧
      (¬worst .fail → worst .marginal → aggregateVerdict k samples = .marginal) ∧
      (¬worst .fail → ¬worst .marginal → aggregateVerdict k samples = .pass))) ∧
  (∀ (k : Nat) (samples : List Sample) (v : Verdict) (c : Option AbortCause) (f : Flags) (frame tick : Stamp),
    let r := resultPart k samples v c f frame tick
    let engs := samples.filterMap (·.eng)
    let n : Int := engs.length
    r.samples = samples ∧ r.verdict = v ∧ r.cause = c ∧ r.k = k ∧ r.frame = frame ∧ r.tick = tick ∧
    r.valid = engs.length ∧
    (engs = [] → r.value = none ∧ r.minimum = none ∧ r.maximum = none) ∧
    (engs ≠ [] → ∃ a lo hi, r.value = some a ∧ r.minimum = some lo ∧ r.maximum = some hi ∧
      2 * (a * n - engs.sum).natAbs ≤ engs.length ∧
      (2 * (a * n - engs.sum).natAbs = engs.length → engs.sum.natAbs ≤ (a * n).natAbs) ∧
      lo ∈ engs ∧ hi ∈ engs ∧ (∀ x ∈ engs, lo ≤ x ∧ x ≤ hi) ∧ lo ≤ a ∧ a ≤ hi) ∧
    ∀ has ∈ [Flags.overrange, Flags.static, Flags.noSignal, Flags.disturbed, Flags.timeout, Flags.saturated,
        Flags.guardClamped, Flags.late],
      has r.flags = (has f || samples.any (fun x => has x.flags)))

/-! ## The prompt service (chapter 8) -/

/-- PROMPT (R138) is refused with RANGE for an unknown kind or priority, then with WRONG_STATE outside NORMAL, then with BUSY where the slot is held; a transmitter that is OFF leaves the slot empty, with the tag used and closed, and answers WRONG_STATE. Taken, the slot holds the request with the next tag, a PROMPT_REQ is queued, and the tag is answered. CANCEL_PROMPT (R141) empties a slot that the host holds, closes its tag and queues a PROMPT_CANCEL, and the slot goes to the first OPERATOR check that waits for it (R125); an empty slot answers that nothing was cancelled, and a check's slot is refused with BUSY. The model's choices in it: that OK_ADJUSTED gives the tag alone (log entry 7), and log entries 17 and 23. That the link status byte is shifted out once is log entry 8. -/
def Obligations.PromptsAreAskedAndCancelled : Prop :=
  ∀ s : State, configured s = true → (s.hfu.mode = .normal ∨ s.hfu.mode = .halted) →
    (∀ k u m d : Byte,
      let cmd : Instr := .prompt (params [k, u, m, d])
      let tag := s.prs.tagCounter
      let kind : PromptKind := if k = 1 then .action else if k = 2 then .judge else .notice
      let stored := if k = 3 then min 30 (max 1 d.toNat) else 0
      let asked : PromptSlot :=
        { holder := none, kind := kind, urgent := decide (u = 1), message := m.toNat, tag := tag, duration := stored
          answer := none, shown := false }
      let frame : Payload := .promptReq kind (decide (u = 1)) m.toNat tag stored
      ((k = 0 ∨ 3 < k.toNat ∨ 1 < u.toNat) → exec cmd s = .next (answered 21 .range [] s s)) ∧
      (1 ≤ k.toNat → k.toNat ≤ 3 → u.toNat ≤ 1 →
        (s.hfu.mode ≠ .normal → exec cmd s = .next (answered 21 .wrongState [] s s)) ∧
        (s.hfu.mode = .normal → s.prs.slot.isSome = true → exec cmd s = .next (answered 21 .busy [] s s)) ∧
        (s.hfu.mode = .normal → s.prs.slot = none → s.rbc.tx.off = true → firstWaiting s asksOperator = none →
          exec cmd s = .next (answered 21 .wrongState [] s
            { s with prs := { s.prs with tagCounter := tag + 1, closedTag := some tag } })) ∧
        (s.hfu.mode = .normal → s.prs.slot = none → s.rbc.tx.off = false →
          exec cmd s = .next (answered 21 (if k = 3 ∧ stored ≠ d.toNat then .okAdjusted else .ok) [BitVec.ofNat 8 tag.val] s
            { s with prs := { s.prs with slot := some asked, tagCounter := tag + 1 }
                     rbc := s.rbc.setSlot .promptReq ((s.rbc.slot .promptReq).replaceWith frame) })))) ∧
    (s.prs.slot = none → exec (.cancelPrompt (params [])) s = .next (answered 22 .ok [0, 0] s s)) ∧
    (∀ p, s.prs.slot = some p →
      (p.holder.isSome = true → exec (.cancelPrompt (params [])) s = .next (answered 22 .busy [] s s)) ∧
      (p.holder = none → slotPasses s →
        exec (.cancelPrompt (params [])) s = .next (answered 22 .ok [1, BitVec.ofNat 8 p.tag.val] s
          (slotTaken { s with prs := { s.prs with slot := none, closedTag := some p.tag }
                              rbc := (s.rbc.request (.promptCancel p.tag)).1 }))))

/-- What ends or shows a request (R139 to R142). The acceptance of its own PROMPT_REQ starts the answer timer at PROMPT_ANSWER_TIME, or ends a NOTICE. A PROMPT_ANSWER with the slot's tag that fits its kind ends a WAITING request: the host's with PROMPT_ANSWERED, and a check's with its sample, PASS or FAIL, and no event of the prompt (R125). Any other answer to this station posts PROMPT_LATE_ANSWER and leaves the slot. A PROMPT_SHOW marks the request it names as shown, and any other clears the mark. At the expiry of the answer timer the request is cancelled: the host's with PROMPT_TIMEOUT, and a check's with the sample TIMEOUT. The slot then goes to the first OPERATOR check that waits. A panel station's own PROMPT_ANSWER and PROMPT_SHOW reach its own slot as another panel's do. Stated where the checks that start settle plainly, and an OPEN check that holds the slot has its run-time part, as each has by the law of O6. The model's choices in it: log entry 4. -/
def Obligations.RequestsEndByAnswerOrTime : Prop :=
  ∀ (s : State) (own : StationIdx) (p : PromptSlot), configured s = true → ownIdx s = some own → slotPasses s →
    s.prs.slot = some p →
    let posted (e : Event) : List EventRecord := postTo s.cml.events { event := e, frame := s.stu.frame }
    let closed (x : Prs) : Prs := { x with slot := none, closedTag := some p.tag }
    (∀ a d, p.answer = none → s.rbc.onLine = some .promptReq →
      s.rbc.slot .promptReq = .inFlight (.promptReq p.kind p.urgent p.message p.tag d) a none false → p.message < 256 →
      (if p.kind = .notice then 1 ≤ d ∧ d ≤ 30 else d = 0) →
      ∃ t, exec (.promptReqAccepted own (Payload.promptReq p.kind p.urgent p.message p.tag d).bytes) s = .next t ∧
        t.cml = s.cml ∧
        (p.kind ≠ .notice → t.prs.slot = some { p with answer := some ((conf s).promptTime * 10000000) } ∧
          t.prs.closedTag = s.prs.closedTag ∧ t.cke = s.cke) ∧
        (p.kind = .notice → t.prs.closedTag = some p.tag ∧
          t.prs.slot = (slotTaken { s with prs := closed s.prs }).prs.slot ∧
          t.cke = (slotTaken { s with prs := closed s.prs }).cke)) ∧
    (∀ (i : StationIdx) (tag : Tag) (a : Answer), heardFrom s i (.promptAnswer own tag a) →
      let fits : Prop := (p.kind = .action ∧ a = .ok) ∨ (p.kind = .judge ∧ a ≠ .ok)
      let ends : Prop := p.answer.isSome = true ∧ tag = p.tag ∧ fits
      let empty : State := { s with prs := { s.prs with slot := none } }
      ∃ t, exec (.promptAnswerAccepted i (Payload.promptAnswer own tag a).bytes) s = .next t ∧ t.hfu = s.hfu ∧
        (ends → p.holder = none → t.prs.slot = (slotTaken empty).prs.slot ∧ t.prs.closedTag = s.prs.closedTag ∧
          t.cml = { s.cml with events := posted (.promptAnswered tag p.message a) } ∧ t.cke = (slotTaken empty).cke) ∧
        (ends → ∀ h, p.holder = some h → (s.cke.checks[h]).state = .opened → (s.cke.checks[h]).run.isSome = true →
          (s.cke.checks[h]).defn.kind = .operator → lendLaw s = true → startsPlainly s 4 →
          let x : Sample := { verdict := if a = .pass then .pass else .fail, eng := some (if a = .pass then 1 else 0)
                              flags := Flags.none }
          let u := slotTaken (endedNow empty h (taken s.cke.checks[h] ++ [x]) Flags.none)
          t.prs.slot = u.prs.slot ∧ t.prs.closedTag = s.prs.closedTag ∧ t.cml = u.cml ∧ t.cke = u.cke) ∧
        (¬ends → t.prs.slot = some p ∧ t.cml = { s.cml with events := posted (.promptLateAnswer tag a) } ∧ t.cke = s.cke)) ∧
    (∀ (i : StationIdx) (shows : Option (StationIdx × Tag)), heardFrom s i (.promptShow shows) →
      ∃ t, exec (.promptShowAccepted i (Payload.promptShow shows).bytes) s = .next t ∧ t.cml = s.cml ∧
        t.prs = { s.prs with slot := some { p with shown := decide (shows = some (own, p.tag)) && p.answer.isSome } }) ∧
    (∀ left, p.answer = some left →
      let e := elapse left s
      let empty : State := { e with prs := closed e.prs, rbc := (e.rbc.request (.promptCancel p.tag)).1 }
      (p.holder = none →
        exec .answerTimerExpiry s = .next (slotTaken (post (.promptTimeout p.tag p.message false) empty))) ∧
      (∀ h, p.holder = some h → (s.cke.checks[h]).state = .opened → (s.cke.checks[h]).run.isSome = true →
        (s.cke.checks[h]).defn.kind = .operator → lendLaw s = true → startsPlainly s 4 →
        let x : Sample := { verdict := .invalid, eng := none, flags := { Flags.none with timeout := true } }
        exec .answerTimerExpiry s = .next (slotTaken (endedNow empty h (taken e.cke.checks[h] ++ [x]) Flags.none))))

/-- The panel's queue (R144 to R146, R148), role (R152) and board (R153) follow the frames of a PRESENT peer, and its own PROMPT_REQ, PROMPT_CANCEL, PROMPT_ANSWER and RESULT as those of any station (R3, R144, R153). A PROMPT_REQ of a station with no entry stands behind every entry of its priority; that of a station with an entry replaces it in its place, or behind every entry of its new priority where that has changed, and a NOTICE timer of the entry is discarded. A PROMPT_CANCEL removes the sender's entry with its tag, a PROMPT_ANSWER the entry of the station that it addresses with its tag, and a BEACON without the panel-role flag the sender's ACTION or JUDGE entry where it shows the slot empty or another tag. A BEACON with the flag from a lower index, or where the station has no index, makes it give up the role: the queue is empty and PANEL_YIELDED is posted. A RESULT fills the sender's board entry, with or without the role, and a BEACON fills it where its last verdict is not NONE and the entry is absent or has another serial. At the expiry of a notice timer the entry is removed, and at the end of the key settle time keys are read again. The model's choices in it: log entry 4, that a NOTICE which replaces the head runs its full duration at once and that an own PROMPT_REQ which is not the request of the prompt slot leaves the slot (log entry 23), and that a BEACON's fields are judged each by itself (log entry 11). -/
def Obligations.PanelQueueFollowsTheFrames : Prop :=
  ∀ (s : State) (i : StationIdx), configured s = true → s.cml.strapPanel = true →
    let peer : Prop := ownIdx s ≠ some i ∧ (s.rbc.peers[i]).present = true
    (∀ (n : Nat) (v : StationVerdict) (c : Counts), heardFrom s i (.result n v c) → n < 256 → c.pass ≤ 48 →
      c.marginal ≤ 48 → c.fail ≤ 48 → c.invalid ≤ 48 → c.aborted ≤ 48 →
      let entry : BoardEntry := { serial := n, verdict := v, counts := some c, fromResult := true, stale := false }
      ∃ t, exec (.resultAccepted i (Payload.result n v c).bytes) s = .next t ∧
        t.prs = { s.prs with board := vset s.prs.board i (some entry) } ∧ t.cml = s.cml ∧
        t.rbc.slots = (slotSettled s i (.result n v c)).rbc.slots) ∧
    (∀ b : Beacon, peer → payloadInCode (.beacon b) = true →
      ∃ t, exec (.beaconAccepted i b.bytes) s = .next t ∧ (∀ j, j ≠ i → t.prs.board[j] = s.prs.board[j]) ∧
        (b.verdict = none → t.prs.board[i] = s.prs.board[i]) ∧
        (∀ x, s.prs.board[i] = some x → x.serial = b.serial → t.prs.board[i] = some x) ∧
        (∀ v, b.verdict = some v → (∀ x, s.prs.board[i] = some x → x.serial ≠ b.serial) → t.prs.board[i] =
          some { serial := b.serial, verdict := v, counts := none, fromResult := false, stale := false })) ∧
    (s.prs.role = true →
    (∀ (k : PromptKind) (u : Bool) (m : Nat) (tag : Tag) (d : Nat), heardFrom s i (.promptReq k u m tag d) → m < 256 →
      (if k = .notice then 1 ≤ d ∧ d ≤ 30 else d = 0) →
      let new : QueueEntry :=
        { station := i, kind := k, urgent := u, message := m, tag := tag, duration := d, notice := none }
      let behind (q : List QueueEntry) : List QueueEntry :=
        if u then q.filter (·.urgent) ++ [new] ++ q.filter (fun x => !x.urgent) else q ++ [new]
      let becomes (q : List QueueEntry) : Prop :=
        ∃ t, exec (.promptReqAccepted i (Payload.promptReq k u m tag d).bytes) s = .next t ∧
          bareQueue t.prs.queue = bareQueue q ∧
          (∀ x ∈ t.prs.queue, x.station = i → x.notice =
            if k = .notice ∧ t.prs.queue.head? = some x then some (d * 10000000) else none) ∧
          (ownIdx s ≠ some i → t.prs.slot = s.prs.slot) ∧
          (ownIdx s ≠ some i ∨ k ≠ .notice ∨ firstWaiting s asksOperator = none →
            queueChanged (slotSettled s i (.promptReq k u m tag d)) t q ∧ t.cml = s.cml)
      ((∀ x ∈ s.prs.queue, x.station ≠ i) → becomes (behind s.prs.queue)) ∧
      (∀ front x back, s.prs.queue = front ++ x :: back → x.station = i → (∀ y ∈ front ++ back, y.station ≠ i) →
        becomes (if x.urgent = u then front ++ new :: back else behind (front ++ back)))) ∧
    (∀ (j : StationIdx) (tag : Tag) (a : Answer), heardFrom s i (.promptAnswer j tag a) →
      let q := s.prs.queue.filter (fun x => !(decide (x.station = j) && decide (x.tag = tag)))
      ∃ t, exec (.promptAnswerAccepted i (Payload.promptAnswer j tag a).bytes) s = .next t ∧
        bareQueue t.prs.queue = bareQueue q ∧
        (ownIdx s ≠ some j → queueChanged (slotSettled s i (.promptAnswer j tag a)) t q ∧ t.cml = s.cml ∧
          t.prs.slot = s.prs.slot)) ∧
    (∀ tag : Tag, heardFrom s i (.promptCancel tag) →
      ∃ t, exec (.promptCancelAccepted i (Payload.promptCancel tag).bytes) s = .next t ∧
        queueChanged (slotSettled s i (.promptCancel tag)) t
          (s.prs.queue.filter (fun x => !(decide (x.station = i) && decide (x.tag = tag)))) ∧
        t.cml = s.cml ∧ t.prs.slot = s.prs.slot) ∧
    (∀ b : Beacon, peer → payloadInCode (.beacon b) = true → b.haltInput = s.hfu.sources[i] →
      let yields : Prop := b.panelRole = true ∧ ∀ own, ownIdx s = some own → i < own
      ∃ t, exec (.beaconAccepted i b.bytes) s = .next t ∧ t.prs.slot = s.prs.slot ∧
        (¬yields → t.prs.role = true ∧ queueChanged s t (s.prs.queue.filter (fun x =>
          !(decide (x.station = i) && decide (x.kind ≠ .notice) && (b.prompt.isNone || decide (b.tag ≠ x.tag)))))) ∧
        (yields → t.prs.role = false ∧ t.prs.yielded = true ∧ t.prs.queue = [] ∧ t.rbc.slots = s.rbc.slots ∧
          (s.cml.events = [] → t.cml.events.head? = some { event := .panelYielded i, frame := s.stu.frame }))) ∧
    (∀ (j : StationIdx) x left, s.prs.queue.find? (fun x => decide (x.station = j)) = some x → x.notice = some left →
      let e := elapse left s
      ∃ t, exec (.noticeTimerExpiry j) s = .next t ∧
        queueChanged e t (e.prs.queue.filter (fun x => decide (x.station ≠ j))) ∧ t.cml = s.cml) ∧
    (∀ left, s.prs.keySettle = some left →
      let e := elapse left s
      exec .keySettleExpiry s = .next { e with prs := { e.prs with keySettle := none } }))

/-! ## The rack bus (chapter 1) -/

/-- A queue request (R7, R8). A transmitter that is OFF discards it and nothing changes. A SLOT_CLAIM, PROMPT_SHOW, PROMPT_REQ or RESULT replaces a waiting payload of its kind, or becomes the successor of the frame on the line. A PROMPT_ANSWER is refused unless its slot is empty. HALT and HALT_CLEAR each empty the other's waiting slot; a waiting HALT stays. A SLOT_RELEASE, or a PROMPT_CANCEL of the same tag, removes a waiting SLOT_CLAIM or PROMPT_REQ, and follows one on the line as its companion. The model's choices in it, for requests that meet a slot on the line: log entry 10. -/
def Obligations.RequestsFollowTheSlotRules : Prop :=
  ∀ (r : Rbc) (p : Payload),
    (r.tx = .offClash ∨ r.tx = .offStrap → r.request p = (r, .discarded)) ∧
    (r.tx ≠ .offClash → r.tx ≠ .offStrap →
      let t := (r.request p).1
      let only (ks : List FrameKind) : Prop :=
        t = { r with slots := t.slots } ∧ ∀ k : FrameKind, k ∉ ks → t.slot k = r.slot k
      let placed (k : FrameKind) : Prop := match r.slot k with
        | .inFlight q a _ c => t.slot k = .inFlight q a (some p) c
        | _ => t.slot k = .pending p 0
      let kept (k : FrameKind) : Prop := match r.slot k with
        | .empty => t.slot k = .pending p 0
        | .pending q a => t.slot k = .pending q a
        | .inFlight q a _ c => t.slot k = .inFlight q a (some p) c
      let gone (k : FrameKind) : Prop := match r.slot k with
        | .inFlight q a _ c => t.slot k = .inFlight q a none c
        | _ => t.slot k = .empty
      (p.kind = .slotClaim ∨ p.kind = .promptShow ∨ p.kind = .promptReq ∨ p.kind = .result →
        (r.request p).2 = .taken ∧ only [p.kind] ∧ placed p.kind) ∧
      (p.kind = .haltClear → (r.request p).2 = .taken ∧ only [.halt, .haltClear] ∧ placed .haltClear ∧ gone .halt) ∧
      (p.kind = .halt → (r.request p).2 = .taken ∧ only [.halt, .haltClear] ∧ kept .halt ∧ gone .haltClear) ∧
      (p.kind = .promptAnswer → (r.slot .promptAnswer = .empty →
          (r.request p).2 = .taken ∧ only [.promptAnswer] ∧ t.slot .promptAnswer = .pending p 0) ∧
        (r.slot .promptAnswer ≠ .empty → r.request p = (r, .refused))) ∧
      (p = .beaconDue → (r.request p).2 = .taken ∧ only [.beacon] ∧ kept .beacon) ∧
      (p = .slotRelease → (r.request p).2 = .taken ∧ only [.slotClaim, .slotRelease] ∧
        match r.slot .slotClaim with
        | .pending _ _ => t.slot .slotClaim = .empty ∧ t.slot .slotRelease = r.slot .slotRelease
        | .inFlight q a _ _ => t.slot .slotClaim = .inFlight q a none true ∧ t.slot .slotRelease = r.slot .slotRelease
        | .empty => t.slot .slotClaim = .empty ∧ kept .slotRelease) ∧
      (∀ tag, p = .promptCancel tag → (r.request p).2 = .taken ∧ only [.promptReq, .promptCancel] ∧
        match r.slot .promptReq with
        | .empty => t.slot .promptReq = .empty ∧ placed .promptCancel
        | .pending q a =>
          if q.reqTag = some tag then t.slot .promptReq = .empty ∧ t.slot .promptCancel = r.slot .promptCancel
          else t.slot .promptReq = .pending q a ∧ placed .promptCancel
        | .inFlight q a succ c =>
          if q.reqTag = some tag then
            t.slot .promptReq = .inFlight q a succ true ∧ t.slot .promptCancel = r.slot .promptCancel
          else if succ.bind Payload.reqTag = some tag then
            t.slot .promptReq = .inFlight q a none c ∧ t.slot .promptCancel = r.slot .promptCancel
          else t.slot .promptReq = .inFlight q a succ c ∧ placed .promptCancel))

/-- The bus and the station's own frames (R1, R2, R4 to R6, R9 to R11). Eight recessive bit times make the bus IDLE with a count of 0, and a start bit makes it BUSY. When the idle count stands at its position, in this round or the next, the station starts the first waiting frame in kind order, a BEACON assembled at that moment from the fields of R15 (`beaconAsked`), and drives its bits. It drives the veto slot of a frame that it finds faulty, from the first frame after the bus was IDLE (R19), and of its own frame where it read a dominant bit on a recessive one after the header. A veto puts its own frame back with one attempt more, or lets its successor or companion take over; the eighth abandons it, with RB_TX_ABANDONED for class 2 and the contained fault RB_ABANDON for classes 0 and 1. A dominant level on a recessive header bit is an index clash: the transmitter is OFF_CLASH, its slots are empty, and the severe fault INDEX_CLASH stands. The model's choices in it: log entries 4, 6 and 10. -/
def Obligations.OwnFramesAreSentAndVetoed : Prop :=
  ∀ s : State,
    exec .busIdle s = .next (if s.rbc.bus = .busy then
      { s with rbc := { s.rbc with bus := .idle, idleCount := 0, bitTicks := 0, synced := true } } else s) ∧
    exec .startBitSeen s = .next { s with rbc := { s.rbc with bus := .busy } } ∧
    (∀ i k p a, ownIdx s = some i → s.rbc.slot k = .pending p a →
      (∀ j : FrameKind, j.code < k.code → ∀ q b, s.rbc.slot j ≠ .pending q b) → s.rbc.tx = .on → s.rbc.bus = .idle →
      s.rbc.idleCount < 56 →
      let position := 8 + 12 * k.cls + i.val + (if k.cls = 2 ∧ s.rbc.courtesy = true then 12 else 0)
      let wait := (if s.rbc.idleCount ≤ position then position - s.rbc.idleCount else position + 56 - s.rbc.idleCount) * 40
      let e := elapse (wait - s.rbc.bitTicks) s
      let q : Payload := if p = .beaconDue then .beacon (beaconAsked e) else p
      let r := e.rbc.setSlot k (.inFlight q a none false)
      exec .transmitStart s = .next { e with rbc := { r with
        bus := .busy, driven := some (frameLineBits (driveFrame i.val q))
        courtesy := if k.cls = 2 then false else s.rbc.courtesy } }) ∧
    (∀ f : RackFrame,
      let faulty : Prop := (¬∃ k : FrameKind, f.header.toNat = k.cls * 16384 + f.header.toNat / 1024 % 16 * 1024 +
          k.code * 32 + k.length) ∨ 12 ≤ f.header.toNat / 1024 % 16 ∨ f.crc ≠ rackCrc (rackBits f.header f.payload)
      let heard := frameLineBits f
      let misread : Prop := s.rbc.onLine.isSome = true ∧ ∃ bits n, s.rbc.driven = some bits ∧ 17 ≤ n ∧
        bits[n]? = some true ∧ heard[n]? = some false
      ∃ veto : Bool, (veto = true ↔ (s.rbc.synced = true ∧ faulty) ∨ misread) ∧
      let judged : State := { s with rbc := { s.rbc with veto := veto } }
      (s.rbc.onLine = none → exec (.frameVetoed f) s = .next judged) ∧
      (∀ k p a succ comp, s.rbc.onLine = some k → s.rbc.slot k = .inFlight p a succ comp →
        let courtesy := s.rbc.courtesy || decide (k.cls = 2)
        let settled (x : TxSlot) : State :=
          { s with rbc := { s.rbc.setSlot k x with courtesy := courtesy, driven := none, veto := veto } }
        let overtaken : Prop := (k = .halt ∧ s.rbc.slot .haltClear ≠ .empty) ∨ (k = .haltClear ∧ s.rbc.slot .halt ≠ .empty)
        let again : Payload := match p with
          | .beacon _ => .beaconDue
          | q => q
        (∀ q, succ = some q → exec (.frameVetoed f) s = .next (settled (.pending q 0))) ∧
        (succ = none → (comp = true ∨ overtaken) → exec (.frameVetoed f) s = .next (settled .empty)) ∧
        (succ = none → comp = false → ¬overtaken → a < 7 →
          exec (.frameVetoed f) s = .next (settled (.pending again (a + 1)))) ∧
        (succ = none → comp = false → ¬overtaken → 7 ≤ a → k.cls = 2 →
          exec (.frameVetoed f) s = .next (post (.rbTxAbandoned k) (settled .empty))) ∧
        (succ = none → comp = false → ¬overtaken → 7 ≤ a → k.cls ≠ 2 → ready s → ∃ t x, exec (.frameVetoed f) s = .next t ∧
          t.hfu.mode = .fault ∧ t.hfu.entry = some x ∧ x.cause = .rbAbandon k ∧ t.rbc.veto = veto))) ∧
    (s.rbc.onLine = none → exec .simultaneousIndexClash s = .next s) ∧
    (∀ k, s.rbc.onLine = some k → ready s → ∃ t f, exec .simultaneousIndexClash s = .next t ∧ t.rbc.tx = .offClash ∧
      (∀ j : FrameKind, t.rbc.slot j = .empty) ∧ t.rbc.beaconTimer = none ∧ t.rbc.listenTimer = none ∧
      t.hfu.mode = .fault ∧ t.hfu.entry = some f ∧ f.cause = .indexClash false)

/-- The bus timers and the peer view (R12 to R18, R151). The listen timer makes the transmitter ON and queues a BEACON; a panel station then rebuilds its queue from the beacons of PRESENT peers that have no entry, in ascending index behind the entries of their priority. The beacon timer queues a BEACON each 100 ms. A frame outside its codes tells its sender's presence alone, and one of the own index is an index clash. A peer's BEACON is held, and sets or clears its halt source and its claim; a peer that is silent for 300 ms is ABSENT, is lost to the claim list and the panel's queue, and its board entry is STALE. S_EFF follows both. An accepted frame leaves its veto slot recessive (R2). The model's choices in it: log entries 4, 6 and 11. -/
def Obligations.PeersAreHeardAndLost : Prop :=
  ∀ (s : State) (i : StationIdx), configured s = true →
    (∀ left, s.rbc.listenTimer = some left → s.rbc.tx = .listening →
      let e := elapse left s
      let r : Rbc := { e.rbc with tx := .on, listenTimer := none, beaconTimer := some 1000000 }
      let on : State := { e with rbc := r.setSlot .beacon ((r.slot .beacon).keepOr .beaconDue) }
      (s.prs.role = false → exec .listenTimerExpiry s = .next on) ∧
      (s.prs.role = true → queueOk s.prs.queue = true →
        let shown (j : StationIdx) : Option QueueEntry :=
          match (s.rbc.peers[j]).present, (s.rbc.peers[j]).beacon with
          | true, some b =>
            if ownIdx s = some j ∨ ∃ x ∈ s.prs.queue, x.station = j then none
            else match b.prompt with
              | some (k, u) => if k = .notice then none else
                some { station := j, kind := k, urgent := u, message := b.message, tag := b.tag, duration := 0, notice := none }
              | none => none
          | _, _ => none
        let new := (List.finRange 12).filterMap shown
        let held := e.prs.queue
        ∃ t, exec .listenTimerExpiry s = .next t ∧
          t = { on with prs := t.prs, rbc := { on.rbc with slots := t.rbc.slots } } ∧
          t.prs = { e.prs with queue := t.prs.queue, keySettle := t.prs.keySettle } ∧
          queueChanged on t (held.filter (·.urgent) ++ new.filter (·.urgent) ++
            (held.filter (fun x => !x.urgent) ++ new.filter (fun x => !x.urgent))))) ∧
    (∀ left, s.rbc.beaconTimer = some left → s.rbc.tx = .on →
      let e := elapse left s
      let r : Rbc := { e.rbc with beaconTimer := some 1000000 }
      exec .beaconTimerExpiry s = .next { e with rbc := r.setSlot .beacon ((r.slot .beacon).keepOr .beaconDue) }) ∧
    (let seen : PeerEntry := { present := true, beacon := (s.rbc.peers[i]).beacon, silence := some 3000000 }
     let heard : State := { s with rbc := { s.rbc with veto := false, peers := vset s.rbc.peers i seen } }
     ownIdx s ≠ some i → exec (.outOfCodeFrameAccepted i) s = .next (
       if (s.rbc.peers[i]).present then heard else post (.peerJoined i) heard)) ∧
    (ownIdx s = some i → (s.rbc.tx = .listening ∨ s.rbc.tx = .on) → s.hfu.mode = .normal →
      ∃ t f, exec (.outOfCodeFrameAccepted i) s = .next t ∧ t.rbc.tx = .offClash ∧ t.hfu.mode = .fault ∧
        t.hfu.entry = some f ∧ f.cause = .indexClash true) ∧
    (∀ b : Beacon, payloadInCode (.beacon b) = true → ownIdx s ≠ some i →
      ∃ t, exec (.beaconAccepted i b.bytes) s = .next t ∧ t.rbc.veto = false ∧
        t.rbc.peers[i] = { present := true, beacon := some b, silence := some 3000000 } ∧
        t.hfu.sources = vset s.hfu.sources i b.haltInput ∧ leastLimit t ∧
        (s.hfu.mode = .normal → haltFlag s.hfu = false → b.haltInput = true → t.hfu.mode = .halted) ∧
        (b.haltInput = false → (b.slotState = .none ↔ ∀ c ∈ t.dsu.claims, c.station ≠ i))) ∧
    (∀ left, (s.rbc.peers[i]).silence = some left → ownIdx s ≠ some i →
      ∃ t, exec (.silenceTimerExpiry i) s = .next t ∧
        t.rbc.peers[i] = { present := false, beacon := none, silence := none } ∧ leastLimit t ∧
        t.dsu.claims.map (·.station) = (s.dsu.claims.map (·.station)).filter (fun j => decide (j ≠ i)) ∧
        (s.prs.role = true → t.prs.queue.map (fun x => (x.station, x.tag)) =
          (s.prs.queue.filter (fun x => decide (x.station ≠ i))).map (fun x => (x.station, x.tag))) ∧
        (s.cml.strapPanel = true → t.prs.board[i] = (s.prs.board[i]).map (fun x => { x with stale := true })) ∧
        (s.cml.events = [] → t.cml.events.head? = some { event := .peerLost i, frame := s.stu.frame }))

/-! ## Resets and CONFIGURE (10.6) -/

/-- Both resets leave every block at its reset values, with the straps and raw levels of the pins (R180), and the commands that wait. A power-on reset also clears the test record, the last verdict and serial, and the fault record; the reset line keeps them, RETAINED (R136, R171). The model's choices in it: the waiting commands stand (log entry 25); the idle count reads 0 while the bus is BUSY, no bits are driven on the line, and the veto slot counts as recessive (log entry 27). -/
def Obligations.ResetsClearTheStation : Prop :=
  ∀ (pins : Pins) (s : State),
    (∃ t, exec (.powerOnReset pins) s = .next t ∧ clearedBy pins t ∧ t.pending = s.pending ∧ t.cke.record = [] ∧
      t.cke.verdict = none ∧ t.cke.serial = 0 ∧ t.cke.retained = false ∧ t.hfu.recState = .none ∧ t.hfu.entry = none) ∧
    (∃ t, exec (.resetLine pins) s = .next t ∧ clearedBy pins t ∧ t.pending = s.pending ∧ t.cke.record = s.cke.record ∧
      t.cke.verdict = s.cke.verdict ∧ t.cke.serial = s.cke.serial ∧ t.cke.retained = true ∧ t.hfu.entry = s.hfu.entry ∧
      t.hfu.recState = if s.hfu.recState = .none then .none else .retained)

/-- CONFIGURE (R181, R182), taken once, at a station with nothing under way. A required parameter that is absent refuses it with RANGE. Taken, each parameter is stored clamped to its range, or at its default, and the ten stored values are answered, with OK_ADJUSTED where a given one was changed. The transmitter listens for 250 ms, every peer is ABSENT, S_EFF is the own S_MAX, the nest is derived, the claim list and the test record are empty, the outputs stand at SAFE_PATTERN, the PANEL strap gives the panel role, the fault record is NONE, and a halt source that stands makes the mode HALTED. The model's choices in it: log entry 7, and that bits 10 to 15 of the present mask are ignored (log entry 16). That the link status byte is shifted out once is log entry 8. -/
def Obligations.ConfigureStartsTheStation : Prop :=
  ∀ (s : State) (bs : List Byte), configured s = false → s.hfu.mode = .normal → noChecks s → s.prs.slot = none →
    bs.length = 19 →
    let required := givenParam bs 2 && givenParam bs 3 && givenParam bs 4 && givenParam bs 8 && givenParam bs 9
    let c := configAsked bs
    configInRange c = true ∧
    (required = false → exec (.configure (params bs)) s = .next (answered 1 .range [] s s)) ∧
    (required = true → ∃ t, exec (.configure (params bs)) s =
        .next (answered 1 (if configChanged bs then .okAdjusted else .ok) c.bytes s t) ∧
      t.cml.config = some c ∧ t.hfu.mode = (if haltFlag s.hfu then .halted else .normal) ∧
      t.hfu.sources = s.hfu.sources ∧ t.hfu.recState = .none ∧ t.hfu.entry = none ∧ t.ncu.nest = derivedNest s.ncu ∧
      (s.rbc.tx = .unconfigured → t.rbc.tx = .listening ∧ t.rbc.listenTimer = some 2500000) ∧
      (s.rbc.tx ≠ .unconfigured → t.rbc.tx = s.rbc.tx) ∧ (∀ i : StationIdx, t.rbc.peers[i] =
        { present := false, beacon := none, silence := none }) ∧ t.rbc.sEff = c.sMax ∧ t.dsu.claims = [] ∧
      t.stu.discretes = c.safePattern ∧ t.cke.record = [] ∧ t.cke.verdict = none ∧ t.cke.serial = 0 ∧
      t.cke.retained = false ∧ t.cke.armSeq = 0 ∧ t.prs.tagCounter = 0 ∧ t.prs.closedTag = none ∧ t.prs.queue = [] ∧
      t.prs.role = s.cml.strapPanel ∧ t.prs.slot = none)

end
end

