-- ==== Sys2Proof/Laws/State.lean ====
section
/-! SUPPORT. One lemma per unit and per update of State, true by definition: what a reader of one unit finds after another unit was replaced. -/

namespace Sys2Proof.Machine

variable (s : State)

/-! ### After `withPins` -/

@[simp] theorem State.withPins_pins (x : Pins) : (s.withPins x).pins = x := rfl
@[simp] theorem State.withPins_rbc (x : Pins) : (s.withPins x).rbc = s.rbc := rfl
@[simp] theorem State.withPins_ncu (x : Pins) : (s.withPins x).ncu = s.ncu := rfl
@[simp] theorem State.withPins_dsu (x : Pins) : (s.withPins x).dsu = s.dsu := rfl
@[simp] theorem State.withPins_stu (x : Pins) : (s.withPins x).stu = s.stu := rfl
@[simp] theorem State.withPins_vnp (x : Pins) : (s.withPins x).vnp = s.vnp := rfl
@[simp] theorem State.withPins_rcu (x : Pins) : (s.withPins x).rcu = s.rcu := rfl
@[simp] theorem State.withPins_cke (x : Pins) : (s.withPins x).cke = s.cke := rfl
@[simp] theorem State.withPins_prs (x : Pins) : (s.withPins x).prs = s.prs := rfl
@[simp] theorem State.withPins_hfu (x : Pins) : (s.withPins x).hfu = s.hfu := rfl
@[simp] theorem State.withPins_cml (x : Pins) : (s.withPins x).cml = s.cml := rfl
@[simp] theorem State.withPins_pending (x : Pins) : (s.withPins x).pending = s.pending := rfl
@[simp] theorem State.withPins_same : s.withPins s.pins = s := rfl
@[simp] theorem State.withPins_twice (x y : Pins) : (s.withPins x).withPins y = s.withPins y := rfl
@[simp] theorem configured_withPins (x : Pins) : configured (s.withPins x) = configured s := rfl
@[simp] theorem conf_withPins (x : Pins) : conf (s.withPins x) = conf s := rfl
@[simp] theorem ownIdx_withPins (x : Pins) : ownIdx (s.withPins x) = ownIdx s := rfl
@[simp] theorem attn_withPins (x : Pins) : attn (s.withPins x) = attn s := rfl

/-! ### After `withRbc` -/

@[simp] theorem State.withRbc_pins (x : Rbc) : (s.withRbc x).pins = s.pins := rfl
@[simp] theorem State.withRbc_rbc (x : Rbc) : (s.withRbc x).rbc = x := rfl
@[simp] theorem State.withRbc_ncu (x : Rbc) : (s.withRbc x).ncu = s.ncu := rfl
@[simp] theorem State.withRbc_dsu (x : Rbc) : (s.withRbc x).dsu = s.dsu := rfl
@[simp] theorem State.withRbc_stu (x : Rbc) : (s.withRbc x).stu = s.stu := rfl
@[simp] theorem State.withRbc_vnp (x : Rbc) : (s.withRbc x).vnp = s.vnp := rfl
@[simp] theorem State.withRbc_rcu (x : Rbc) : (s.withRbc x).rcu = s.rcu := rfl
@[simp] theorem State.withRbc_cke (x : Rbc) : (s.withRbc x).cke = s.cke := rfl
@[simp] theorem State.withRbc_prs (x : Rbc) : (s.withRbc x).prs = s.prs := rfl
@[simp] theorem State.withRbc_hfu (x : Rbc) : (s.withRbc x).hfu = s.hfu := rfl
@[simp] theorem State.withRbc_cml (x : Rbc) : (s.withRbc x).cml = s.cml := rfl
@[simp] theorem State.withRbc_pending (x : Rbc) : (s.withRbc x).pending = s.pending := rfl
@[simp] theorem State.withRbc_same : s.withRbc s.rbc = s := rfl
@[simp] theorem State.withRbc_twice (x y : Rbc) : (s.withRbc x).withRbc y = s.withRbc y := rfl
@[simp] theorem configured_withRbc (x : Rbc) : configured (s.withRbc x) = configured s := rfl
@[simp] theorem conf_withRbc (x : Rbc) : conf (s.withRbc x) = conf s := rfl
@[simp] theorem ownIdx_withRbc (x : Rbc) : ownIdx (s.withRbc x) = ownIdx s := rfl
@[simp] theorem attn_withRbc (x : Rbc) : attn (s.withRbc x) = attn s := rfl

/-! ### After `withNcu` -/

@[simp] theorem State.withNcu_pins (x : Ncu) : (s.withNcu x).pins = s.pins := rfl
@[simp] theorem State.withNcu_rbc (x : Ncu) : (s.withNcu x).rbc = s.rbc := rfl
@[simp] theorem State.withNcu_ncu (x : Ncu) : (s.withNcu x).ncu = x := rfl
@[simp] theorem State.withNcu_dsu (x : Ncu) : (s.withNcu x).dsu = s.dsu := rfl
@[simp] theorem State.withNcu_stu (x : Ncu) : (s.withNcu x).stu = s.stu := rfl
@[simp] theorem State.withNcu_vnp (x : Ncu) : (s.withNcu x).vnp = s.vnp := rfl
@[simp] theorem State.withNcu_rcu (x : Ncu) : (s.withNcu x).rcu = s.rcu := rfl
@[simp] theorem State.withNcu_cke (x : Ncu) : (s.withNcu x).cke = s.cke := rfl
@[simp] theorem State.withNcu_prs (x : Ncu) : (s.withNcu x).prs = s.prs := rfl
@[simp] theorem State.withNcu_hfu (x : Ncu) : (s.withNcu x).hfu = s.hfu := rfl
@[simp] theorem State.withNcu_cml (x : Ncu) : (s.withNcu x).cml = s.cml := rfl
@[simp] theorem State.withNcu_pending (x : Ncu) : (s.withNcu x).pending = s.pending := rfl
@[simp] theorem State.withNcu_same : s.withNcu s.ncu = s := rfl
@[simp] theorem State.withNcu_twice (x y : Ncu) : (s.withNcu x).withNcu y = s.withNcu y := rfl
@[simp] theorem configured_withNcu (x : Ncu) : configured (s.withNcu x) = configured s := rfl
@[simp] theorem conf_withNcu (x : Ncu) : conf (s.withNcu x) = conf s := rfl
@[simp] theorem ownIdx_withNcu (x : Ncu) : ownIdx (s.withNcu x) = ownIdx s := rfl
@[simp] theorem attn_withNcu (x : Ncu) : attn (s.withNcu x) = attn s := rfl

/-! ### After `withDsu` -/

@[simp] theorem State.withDsu_pins (x : Dsu) : (s.withDsu x).pins = s.pins := rfl
@[simp] theorem State.withDsu_rbc (x : Dsu) : (s.withDsu x).rbc = s.rbc := rfl
@[simp] theorem State.withDsu_ncu (x : Dsu) : (s.withDsu x).ncu = s.ncu := rfl
@[simp] theorem State.withDsu_dsu (x : Dsu) : (s.withDsu x).dsu = x := rfl
@[simp] theorem State.withDsu_stu (x : Dsu) : (s.withDsu x).stu = s.stu := rfl
@[simp] theorem State.withDsu_vnp (x : Dsu) : (s.withDsu x).vnp = s.vnp := rfl
@[simp] theorem State.withDsu_rcu (x : Dsu) : (s.withDsu x).rcu = s.rcu := rfl
@[simp] theorem State.withDsu_cke (x : Dsu) : (s.withDsu x).cke = s.cke := rfl
@[simp] theorem State.withDsu_prs (x : Dsu) : (s.withDsu x).prs = s.prs := rfl
@[simp] theorem State.withDsu_hfu (x : Dsu) : (s.withDsu x).hfu = s.hfu := rfl
@[simp] theorem State.withDsu_cml (x : Dsu) : (s.withDsu x).cml = s.cml := rfl
@[simp] theorem State.withDsu_pending (x : Dsu) : (s.withDsu x).pending = s.pending := rfl
@[simp] theorem State.withDsu_same : s.withDsu s.dsu = s := rfl
@[simp] theorem State.withDsu_twice (x y : Dsu) : (s.withDsu x).withDsu y = s.withDsu y := rfl
@[simp] theorem configured_withDsu (x : Dsu) : configured (s.withDsu x) = configured s := rfl
@[simp] theorem conf_withDsu (x : Dsu) : conf (s.withDsu x) = conf s := rfl
@[simp] theorem ownIdx_withDsu (x : Dsu) : ownIdx (s.withDsu x) = ownIdx s := rfl
@[simp] theorem attn_withDsu (x : Dsu) : attn (s.withDsu x) = attn s := rfl

/-! ### After `withStu` -/

@[simp] theorem State.withStu_pins (x : Stu) : (s.withStu x).pins = s.pins := rfl
@[simp] theorem State.withStu_rbc (x : Stu) : (s.withStu x).rbc = s.rbc := rfl
@[simp] theorem State.withStu_ncu (x : Stu) : (s.withStu x).ncu = s.ncu := rfl
@[simp] theorem State.withStu_dsu (x : Stu) : (s.withStu x).dsu = s.dsu := rfl
@[simp] theorem State.withStu_stu (x : Stu) : (s.withStu x).stu = x := rfl
@[simp] theorem State.withStu_vnp (x : Stu) : (s.withStu x).vnp = s.vnp := rfl
@[simp] theorem State.withStu_rcu (x : Stu) : (s.withStu x).rcu = s.rcu := rfl
@[simp] theorem State.withStu_cke (x : Stu) : (s.withStu x).cke = s.cke := rfl
@[simp] theorem State.withStu_prs (x : Stu) : (s.withStu x).prs = s.prs := rfl
@[simp] theorem State.withStu_hfu (x : Stu) : (s.withStu x).hfu = s.hfu := rfl
@[simp] theorem State.withStu_cml (x : Stu) : (s.withStu x).cml = s.cml := rfl
@[simp] theorem State.withStu_pending (x : Stu) : (s.withStu x).pending = s.pending := rfl
@[simp] theorem State.withStu_same : s.withStu s.stu = s := rfl
@[simp] theorem State.withStu_twice (x y : Stu) : (s.withStu x).withStu y = s.withStu y := rfl
@[simp] theorem configured_withStu (x : Stu) : configured (s.withStu x) = configured s := rfl
@[simp] theorem conf_withStu (x : Stu) : conf (s.withStu x) = conf s := rfl
@[simp] theorem ownIdx_withStu (x : Stu) : ownIdx (s.withStu x) = ownIdx s := rfl
@[simp] theorem attn_withStu (x : Stu) : attn (s.withStu x) = attn s := rfl

/-! ### After `withVnp` -/

@[simp] theorem State.withVnp_pins (x : Vnp) : (s.withVnp x).pins = s.pins := rfl
@[simp] theorem State.withVnp_rbc (x : Vnp) : (s.withVnp x).rbc = s.rbc := rfl
@[simp] theorem State.withVnp_ncu (x : Vnp) : (s.withVnp x).ncu = s.ncu := rfl
@[simp] theorem State.withVnp_dsu (x : Vnp) : (s.withVnp x).dsu = s.dsu := rfl
@[simp] theorem State.withVnp_stu (x : Vnp) : (s.withVnp x).stu = s.stu := rfl
@[simp] theorem State.withVnp_vnp (x : Vnp) : (s.withVnp x).vnp = x := rfl
@[simp] theorem State.withVnp_rcu (x : Vnp) : (s.withVnp x).rcu = s.rcu := rfl
@[simp] theorem State.withVnp_cke (x : Vnp) : (s.withVnp x).cke = s.cke := rfl
@[simp] theorem State.withVnp_prs (x : Vnp) : (s.withVnp x).prs = s.prs := rfl
@[simp] theorem State.withVnp_hfu (x : Vnp) : (s.withVnp x).hfu = s.hfu := rfl
@[simp] theorem State.withVnp_cml (x : Vnp) : (s.withVnp x).cml = s.cml := rfl
@[simp] theorem State.withVnp_pending (x : Vnp) : (s.withVnp x).pending = s.pending := rfl
@[simp] theorem State.withVnp_same : s.withVnp s.vnp = s := rfl
@[simp] theorem State.withVnp_twice (x y : Vnp) : (s.withVnp x).withVnp y = s.withVnp y := rfl
@[simp] theorem configured_withVnp (x : Vnp) : configured (s.withVnp x) = configured s := rfl
@[simp] theorem conf_withVnp (x : Vnp) : conf (s.withVnp x) = conf s := rfl
@[simp] theorem ownIdx_withVnp (x : Vnp) : ownIdx (s.withVnp x) = ownIdx s := rfl
@[simp] theorem attn_withVnp (x : Vnp) : attn (s.withVnp x) = attn s := rfl

/-! ### After `withRcu` -/

@[simp] theorem State.withRcu_pins (x : Rcu) : (s.withRcu x).pins = s.pins := rfl
@[simp] theorem State.withRcu_rbc (x : Rcu) : (s.withRcu x).rbc = s.rbc := rfl
@[simp] theorem State.withRcu_ncu (x : Rcu) : (s.withRcu x).ncu = s.ncu := rfl
@[simp] theorem State.withRcu_dsu (x : Rcu) : (s.withRcu x).dsu = s.dsu := rfl
@[simp] theorem State.withRcu_stu (x : Rcu) : (s.withRcu x).stu = s.stu := rfl
@[simp] theorem State.withRcu_vnp (x : Rcu) : (s.withRcu x).vnp = s.vnp := rfl
@[simp] theorem State.withRcu_rcu (x : Rcu) : (s.withRcu x).rcu = x := rfl
@[simp] theorem State.withRcu_cke (x : Rcu) : (s.withRcu x).cke = s.cke := rfl
@[simp] theorem State.withRcu_prs (x : Rcu) : (s.withRcu x).prs = s.prs := rfl
@[simp] theorem State.withRcu_hfu (x : Rcu) : (s.withRcu x).hfu = s.hfu := rfl
@[simp] theorem State.withRcu_cml (x : Rcu) : (s.withRcu x).cml = s.cml := rfl
@[simp] theorem State.withRcu_pending (x : Rcu) : (s.withRcu x).pending = s.pending := rfl
@[simp] theorem State.withRcu_same : s.withRcu s.rcu = s := rfl
@[simp] theorem State.withRcu_twice (x y : Rcu) : (s.withRcu x).withRcu y = s.withRcu y := rfl
@[simp] theorem configured_withRcu (x : Rcu) : configured (s.withRcu x) = configured s := rfl
@[simp] theorem conf_withRcu (x : Rcu) : conf (s.withRcu x) = conf s := rfl
@[simp] theorem ownIdx_withRcu (x : Rcu) : ownIdx (s.withRcu x) = ownIdx s := rfl
@[simp] theorem attn_withRcu (x : Rcu) : attn (s.withRcu x) = attn s := rfl

/-! ### After `withCke` -/

@[simp] theorem State.withCke_pins (x : Cke) : (s.withCke x).pins = s.pins := rfl
@[simp] theorem State.withCke_rbc (x : Cke) : (s.withCke x).rbc = s.rbc := rfl
@[simp] theorem State.withCke_ncu (x : Cke) : (s.withCke x).ncu = s.ncu := rfl
@[simp] theorem State.withCke_dsu (x : Cke) : (s.withCke x).dsu = s.dsu := rfl
@[simp] theorem State.withCke_stu (x : Cke) : (s.withCke x).stu = s.stu := rfl
@[simp] theorem State.withCke_vnp (x : Cke) : (s.withCke x).vnp = s.vnp := rfl
@[simp] theorem State.withCke_rcu (x : Cke) : (s.withCke x).rcu = s.rcu := rfl
@[simp] theorem State.withCke_cke (x : Cke) : (s.withCke x).cke = x := rfl
@[simp] theorem State.withCke_prs (x : Cke) : (s.withCke x).prs = s.prs := rfl
@[simp] theorem State.withCke_hfu (x : Cke) : (s.withCke x).hfu = s.hfu := rfl
@[simp] theorem State.withCke_cml (x : Cke) : (s.withCke x).cml = s.cml := rfl
@[simp] theorem State.withCke_pending (x : Cke) : (s.withCke x).pending = s.pending := rfl
@[simp] theorem State.withCke_same : s.withCke s.cke = s := rfl
@[simp] theorem State.withCke_twice (x y : Cke) : (s.withCke x).withCke y = s.withCke y := rfl
@[simp] theorem configured_withCke (x : Cke) : configured (s.withCke x) = configured s := rfl
@[simp] theorem conf_withCke (x : Cke) : conf (s.withCke x) = conf s := rfl
@[simp] theorem ownIdx_withCke (x : Cke) : ownIdx (s.withCke x) = ownIdx s := rfl
@[simp] theorem attn_withCke (x : Cke) : attn (s.withCke x) = attn s := rfl

/-! ### After `withPrs` -/

@[simp] theorem State.withPrs_pins (x : Prs) : (s.withPrs x).pins = s.pins := rfl
@[simp] theorem State.withPrs_rbc (x : Prs) : (s.withPrs x).rbc = s.rbc := rfl
@[simp] theorem State.withPrs_ncu (x : Prs) : (s.withPrs x).ncu = s.ncu := rfl
@[simp] theorem State.withPrs_dsu (x : Prs) : (s.withPrs x).dsu = s.dsu := rfl
@[simp] theorem State.withPrs_stu (x : Prs) : (s.withPrs x).stu = s.stu := rfl
@[simp] theorem State.withPrs_vnp (x : Prs) : (s.withPrs x).vnp = s.vnp := rfl
@[simp] theorem State.withPrs_rcu (x : Prs) : (s.withPrs x).rcu = s.rcu := rfl
@[simp] theorem State.withPrs_cke (x : Prs) : (s.withPrs x).cke = s.cke := rfl
@[simp] theorem State.withPrs_prs (x : Prs) : (s.withPrs x).prs = x := rfl
@[simp] theorem State.withPrs_hfu (x : Prs) : (s.withPrs x).hfu = s.hfu := rfl
@[simp] theorem State.withPrs_cml (x : Prs) : (s.withPrs x).cml = s.cml := rfl
@[simp] theorem State.withPrs_pending (x : Prs) : (s.withPrs x).pending = s.pending := rfl
@[simp] theorem State.withPrs_same : s.withPrs s.prs = s := rfl
@[simp] theorem State.withPrs_twice (x y : Prs) : (s.withPrs x).withPrs y = s.withPrs y := rfl
@[simp] theorem configured_withPrs (x : Prs) : configured (s.withPrs x) = configured s := rfl
@[simp] theorem conf_withPrs (x : Prs) : conf (s.withPrs x) = conf s := rfl
@[simp] theorem ownIdx_withPrs (x : Prs) : ownIdx (s.withPrs x) = ownIdx s := rfl
@[simp] theorem attn_withPrs (x : Prs) : attn (s.withPrs x) = attn s := rfl

/-! ### After `withHfu` -/

@[simp] theorem State.withHfu_pins (x : Hfu) : (s.withHfu x).pins = s.pins := rfl
@[simp] theorem State.withHfu_rbc (x : Hfu) : (s.withHfu x).rbc = s.rbc := rfl
@[simp] theorem State.withHfu_ncu (x : Hfu) : (s.withHfu x).ncu = s.ncu := rfl
@[simp] theorem State.withHfu_dsu (x : Hfu) : (s.withHfu x).dsu = s.dsu := rfl
@[simp] theorem State.withHfu_stu (x : Hfu) : (s.withHfu x).stu = s.stu := rfl
@[simp] theorem State.withHfu_vnp (x : Hfu) : (s.withHfu x).vnp = s.vnp := rfl
@[simp] theorem State.withHfu_rcu (x : Hfu) : (s.withHfu x).rcu = s.rcu := rfl
@[simp] theorem State.withHfu_cke (x : Hfu) : (s.withHfu x).cke = s.cke := rfl
@[simp] theorem State.withHfu_prs (x : Hfu) : (s.withHfu x).prs = s.prs := rfl
@[simp] theorem State.withHfu_hfu (x : Hfu) : (s.withHfu x).hfu = x := rfl
@[simp] theorem State.withHfu_cml (x : Hfu) : (s.withHfu x).cml = s.cml := rfl
@[simp] theorem State.withHfu_pending (x : Hfu) : (s.withHfu x).pending = s.pending := rfl
@[simp] theorem State.withHfu_same : s.withHfu s.hfu = s := rfl
@[simp] theorem State.withHfu_twice (x y : Hfu) : (s.withHfu x).withHfu y = s.withHfu y := rfl
@[simp] theorem configured_withHfu (x : Hfu) : configured (s.withHfu x) = configured s := rfl
@[simp] theorem conf_withHfu (x : Hfu) : conf (s.withHfu x) = conf s := rfl
@[simp] theorem ownIdx_withHfu (x : Hfu) : ownIdx (s.withHfu x) = ownIdx s := rfl
@[simp] theorem attn_withHfu (x : Hfu) : attn (s.withHfu x) = attn s := rfl

/-! ### After `withCml` -/

@[simp] theorem State.withCml_pins (x : Cml) : (s.withCml x).pins = s.pins := rfl
@[simp] theorem State.withCml_rbc (x : Cml) : (s.withCml x).rbc = s.rbc := rfl
@[simp] theorem State.withCml_ncu (x : Cml) : (s.withCml x).ncu = s.ncu := rfl
@[simp] theorem State.withCml_dsu (x : Cml) : (s.withCml x).dsu = s.dsu := rfl
@[simp] theorem State.withCml_stu (x : Cml) : (s.withCml x).stu = s.stu := rfl
@[simp] theorem State.withCml_vnp (x : Cml) : (s.withCml x).vnp = s.vnp := rfl
@[simp] theorem State.withCml_rcu (x : Cml) : (s.withCml x).rcu = s.rcu := rfl
@[simp] theorem State.withCml_cke (x : Cml) : (s.withCml x).cke = s.cke := rfl
@[simp] theorem State.withCml_prs (x : Cml) : (s.withCml x).prs = s.prs := rfl
@[simp] theorem State.withCml_hfu (x : Cml) : (s.withCml x).hfu = s.hfu := rfl
@[simp] theorem State.withCml_cml (x : Cml) : (s.withCml x).cml = x := rfl
@[simp] theorem State.withCml_pending (x : Cml) : (s.withCml x).pending = s.pending := rfl
@[simp] theorem State.withCml_same : s.withCml s.cml = s := rfl
@[simp] theorem State.withCml_twice (x y : Cml) : (s.withCml x).withCml y = s.withCml y := rfl

/-! ### After `withPending` -/

@[simp] theorem State.withPending_pins (x : List Instr) : (s.withPending x).pins = s.pins := rfl
@[simp] theorem State.withPending_rbc (x : List Instr) : (s.withPending x).rbc = s.rbc := rfl
@[simp] theorem State.withPending_ncu (x : List Instr) : (s.withPending x).ncu = s.ncu := rfl
@[simp] theorem State.withPending_dsu (x : List Instr) : (s.withPending x).dsu = s.dsu := rfl
@[simp] theorem State.withPending_stu (x : List Instr) : (s.withPending x).stu = s.stu := rfl
@[simp] theorem State.withPending_vnp (x : List Instr) : (s.withPending x).vnp = s.vnp := rfl
@[simp] theorem State.withPending_rcu (x : List Instr) : (s.withPending x).rcu = s.rcu := rfl
@[simp] theorem State.withPending_cke (x : List Instr) : (s.withPending x).cke = s.cke := rfl
@[simp] theorem State.withPending_prs (x : List Instr) : (s.withPending x).prs = s.prs := rfl
@[simp] theorem State.withPending_hfu (x : List Instr) : (s.withPending x).hfu = s.hfu := rfl
@[simp] theorem State.withPending_cml (x : List Instr) : (s.withPending x).cml = s.cml := rfl
@[simp] theorem State.withPending_pending (x : List Instr) : (s.withPending x).pending = x := rfl
@[simp] theorem State.withPending_same : s.withPending s.pending = s := rfl
@[simp] theorem State.withPending_twice (x y : List Instr) : (s.withPending x).withPending y = s.withPending y := rfl
@[simp] theorem configured_withPending (x : List Instr) : configured (s.withPending x) = configured s := rfl
@[simp] theorem conf_withPending (x : List Instr) : conf (s.withPending x) = conf s := rfl
@[simp] theorem ownIdx_withPending (x : List Instr) : ownIdx (s.withPending x) = ownIdx s := rfl
@[simp] theorem attn_withPending (x : List Instr) : attn (s.withPending x) = attn s := rfl

end Sys2Proof.Machine
end

