-- ==== Sys2Proof/Laws/Frames.lean ====
section
/-! SUPPORT. What the shared operations of Machine/Ops.lean, Time.lean and Link.lean leave as it was: one lemma per operation and unit it does not touch. -/

namespace Sys2Proof.Machine

variable (s : State)

/-! ### Time -/

@[simp] theorem elapse_frame (n : Nat) :
    (elapse n s).pins = s.pins ∧ (elapse n s).hfu = s.hfu ∧ (elapse n s).cml = s.cml ∧
    (elapse n s).pending = s.pending := by
  refine ⟨rfl, rfl, rfl, rfl⟩

/-! ### Events and the link -/

@[simp] theorem post_frame (e : Event) :
    (post e s).pins = s.pins ∧ (post e s).rbc = s.rbc ∧ (post e s).ncu = s.ncu ∧ (post e s).dsu = s.dsu ∧
    (post e s).stu = s.stu ∧ (post e s).vnp = s.vnp ∧ (post e s).rcu = s.rcu ∧ (post e s).cke = s.cke ∧
    (post e s).prs = s.prs ∧ (post e s).hfu = s.hfu ∧ (post e s).pending = s.pending := by
  refine ⟨rfl, rfl, rfl, rfl, rfl, rfl, rfl, rfl, rfl, rfl, rfl⟩

@[simp] theorem shiftStatus_frame :
    (shiftStatus s).pins = s.pins ∧ (shiftStatus s).rbc = s.rbc ∧ (shiftStatus s).ncu = s.ncu ∧
    (shiftStatus s).dsu = s.dsu ∧ (shiftStatus s).stu = s.stu ∧ (shiftStatus s).vnp = s.vnp ∧
    (shiftStatus s).rcu = s.rcu ∧ (shiftStatus s).cke = s.cke ∧ (shiftStatus s).prs = s.prs ∧
    (shiftStatus s).hfu = s.hfu ∧ (shiftStatus s).pending = s.pending := by
  refine ⟨rfl, rfl, rfl, rfl, rfl, rfl, rfl, rfl, rfl, rfl, rfl⟩

@[simp] theorem placeResponse_frame (c : Byte) (r : Reply) :
    (placeResponse c r s).pins = s.pins ∧ (placeResponse c r s).rbc = s.rbc ∧ (placeResponse c r s).ncu = s.ncu ∧
    (placeResponse c r s).dsu = s.dsu ∧ (placeResponse c r s).stu = s.stu ∧ (placeResponse c r s).vnp = s.vnp ∧
    (placeResponse c r s).rcu = s.rcu ∧ (placeResponse c r s).cke = s.cke ∧ (placeResponse c r s).prs = s.prs ∧
    (placeResponse c r s).hfu = s.hfu ∧ (placeResponse c r s).pending = s.pending := by
  refine ⟨rfl, rfl, rfl, rfl, rfl, rfl, rfl, rfl, rfl, rfl, rfl⟩

@[simp] theorem setCursor_frame (t : Table) (i : Nat) :
    (setCursor t i s).pins = s.pins ∧ (setCursor t i s).rbc = s.rbc ∧ (setCursor t i s).ncu = s.ncu ∧
    (setCursor t i s).dsu = s.dsu ∧ (setCursor t i s).stu = s.stu ∧ (setCursor t i s).vnp = s.vnp ∧
    (setCursor t i s).rcu = s.rcu ∧ (setCursor t i s).cke = s.cke ∧ (setCursor t i s).prs = s.prs ∧
    (setCursor t i s).hfu = s.hfu ∧ (setCursor t i s).pending = s.pending := by
  refine ⟨rfl, rfl, rfl, rfl, rfl, rfl, rfl, rfl, rfl, rfl, rfl⟩

/-! ### Rack-bus requests -/

@[simp] theorem request_frame (p : Payload) :
    (request p s).pins = s.pins ∧ (request p s).ncu = s.ncu ∧ (request p s).dsu = s.dsu ∧ (request p s).stu = s.stu ∧
    (request p s).vnp = s.vnp ∧ (request p s).rcu = s.rcu ∧ (request p s).cke = s.cke ∧ (request p s).prs = s.prs ∧
    (request p s).hfu = s.hfu ∧ (request p s).cml = s.cml ∧ (request p s).pending = s.pending := by
  refine ⟨rfl, rfl, rfl, rfl, rfl, rfl, rfl, rfl, rfl, rfl, rfl⟩

@[simp] theorem recomputeSEff_frame :
    (recomputeSEff s).pins = s.pins ∧ (recomputeSEff s).ncu = s.ncu ∧ (recomputeSEff s).dsu = s.dsu ∧
    (recomputeSEff s).stu = s.stu ∧ (recomputeSEff s).vnp = s.vnp ∧ (recomputeSEff s).rcu = s.rcu ∧
    (recomputeSEff s).cke = s.cke ∧ (recomputeSEff s).prs = s.prs ∧ (recomputeSEff s).hfu = s.hfu ∧
    (recomputeSEff s).pending = s.pending := by
  simp only [recomputeSEff]
  repeat' split
  all_goals simp

/-! ### The supply -/

@[simp] theorem closeSwitch_frame (r : Rail) :
    (closeSwitch r s).pins = s.pins ∧ (closeSwitch r s).rbc = s.rbc ∧ (closeSwitch r s).ncu = s.ncu ∧
    (closeSwitch r s).stu = s.stu ∧ (closeSwitch r s).vnp = s.vnp ∧ (closeSwitch r s).rcu = s.rcu ∧
    (closeSwitch r s).cke = s.cke ∧ (closeSwitch r s).prs = s.prs ∧ (closeSwitch r s).hfu = s.hfu ∧
    (closeSwitch r s).cml = s.cml ∧ (closeSwitch r s).pending = s.pending := by
  unfold closeSwitch
  dsimp only
  split <;> simp

@[simp] theorem openSwitch_frame (r : Rail) :
    (openSwitch r s).pins = s.pins ∧ (openSwitch r s).rbc = s.rbc ∧ (openSwitch r s).ncu = s.ncu ∧
    (openSwitch r s).stu = s.stu ∧ (openSwitch r s).vnp = s.vnp ∧ (openSwitch r s).rcu = s.rcu ∧
    (openSwitch r s).cke = s.cke ∧ (openSwitch r s).prs = s.prs ∧ (openSwitch r s).hfu = s.hfu ∧
    (openSwitch r s).cml = s.cml ∧ (openSwitch r s).pending = s.pending := by
  unfold openSwitch
  dsimp only
  split <;> simp

@[simp] theorem openBoth_frame :
    (openBoth s).pins = s.pins ∧ (openBoth s).rbc = s.rbc ∧ (openBoth s).ncu = s.ncu ∧ (openBoth s).stu = s.stu ∧
    (openBoth s).vnp = s.vnp ∧ (openBoth s).rcu = s.rcu ∧ (openBoth s).cke = s.cke ∧ (openBoth s).prs = s.prs ∧
    (openBoth s).hfu = s.hfu ∧ (openBoth s).cml = s.cml ∧ (openBoth s).pending = s.pending := by simp [openBoth]

@[simp] theorem judgeMismatch_frame (r : Rail) :
    (judgeMismatch r s).pins = s.pins ∧ (judgeMismatch r s).rbc = s.rbc ∧ (judgeMismatch r s).ncu = s.ncu ∧
    (judgeMismatch r s).stu = s.stu ∧ (judgeMismatch r s).vnp = s.vnp ∧ (judgeMismatch r s).rcu = s.rcu ∧
    (judgeMismatch r s).cke = s.cke ∧ (judgeMismatch r s).prs = s.prs ∧ (judgeMismatch r s).hfu = s.hfu ∧
    (judgeMismatch r s).cml = s.cml ∧ (judgeMismatch r s).pending = s.pending := by
  unfold judgeMismatch
  dsimp only
  split <;> simp

@[simp] theorem withdraw_frame :
    (withdraw s).pins = s.pins ∧ (withdraw s).ncu = s.ncu ∧ (withdraw s).stu = s.stu ∧ (withdraw s).vnp = s.vnp ∧
    (withdraw s).rcu = s.rcu ∧ (withdraw s).cke = s.cke ∧ (withdraw s).prs = s.prs ∧ (withdraw s).hfu = s.hfu ∧
    (withdraw s).cml = s.cml ∧ (withdraw s).pending = s.pending := by
  simp only [withdraw]
  repeat' split
  all_goals simp

@[simp] theorem lossAtPowerUp_frame (r : Rail) :
    (lossAtPowerUp r s).pins = s.pins ∧ (lossAtPowerUp r s).rbc = s.rbc ∧ (lossAtPowerUp r s).ncu = s.ncu ∧
    (lossAtPowerUp r s).stu = s.stu ∧ (lossAtPowerUp r s).vnp = s.vnp ∧ (lossAtPowerUp r s).rcu = s.rcu ∧
    (lossAtPowerUp r s).cke = s.cke ∧ (lossAtPowerUp r s).prs = s.prs ∧ (lossAtPowerUp r s).hfu = s.hfu ∧
    (lossAtPowerUp r s).cml = s.cml ∧ (lossAtPowerUp r s).pending = s.pending := by
  unfold lossAtPowerUp
  split <;> simp

/-! ### Nest moves -/

@[simp] theorem counterRun_frame :
    (counterRun s).pins = s.pins ∧ (counterRun s).rbc = s.rbc ∧ (counterRun s).ncu = s.ncu ∧
    (counterRun s).dsu = s.dsu ∧ (counterRun s).vnp = s.vnp ∧ (counterRun s).rcu = s.rcu ∧
    (counterRun s).cke = s.cke ∧ (counterRun s).prs = s.prs ∧ (counterRun s).hfu = s.hfu ∧
    (counterRun s).cml = s.cml ∧ (counterRun s).pending = s.pending := by
  refine ⟨rfl, rfl, rfl, rfl, rfl, rfl, rfl, rfl, rfl, rfl, rfl⟩

@[simp] theorem counterStop_frame :
    (counterStop s).pins = s.pins ∧ (counterStop s).rbc = s.rbc ∧ (counterStop s).ncu = s.ncu ∧
    (counterStop s).dsu = s.dsu ∧ (counterStop s).vnp = s.vnp ∧ (counterStop s).rcu = s.rcu ∧
    (counterStop s).cke = s.cke ∧ (counterStop s).prs = s.prs ∧ (counterStop s).hfu = s.hfu ∧
    (counterStop s).cml = s.cml ∧ (counterStop s).pending = s.pending := by
  refine ⟨rfl, rfl, rfl, rfl, rfl, rfl, rfl, rfl, rfl, rfl, rfl⟩

@[simp] theorem counterFreeze_frame :
    (counterFreeze s).pins = s.pins ∧ (counterFreeze s).rbc = s.rbc ∧ (counterFreeze s).ncu = s.ncu ∧
    (counterFreeze s).dsu = s.dsu ∧ (counterFreeze s).vnp = s.vnp ∧ (counterFreeze s).rcu = s.rcu ∧
    (counterFreeze s).cke = s.cke ∧ (counterFreeze s).prs = s.prs ∧ (counterFreeze s).hfu = s.hfu ∧
    (counterFreeze s).cml = s.cml ∧ (counterFreeze s).pending = s.pending := by
  unfold counterFreeze
  split <;> simp

@[simp] theorem portOff_frame :
    (portOff s).pins = s.pins ∧ (portOff s).rbc = s.rbc ∧ (portOff s).ncu = s.ncu ∧ (portOff s).dsu = s.dsu ∧
    (portOff s).stu = s.stu ∧ (portOff s).rcu = s.rcu ∧ (portOff s).cke = s.cke ∧ (portOff s).prs = s.prs ∧
    (portOff s).hfu = s.hfu ∧ (portOff s).cml = s.cml ∧ (portOff s).pending = s.pending := by
  unfold portOff
  split <;> simp

@[simp] theorem portEnter_frame :
    (portEnter s).pins = s.pins ∧ (portEnter s).rbc = s.rbc ∧ (portEnter s).ncu = s.ncu ∧ (portEnter s).dsu = s.dsu ∧
    (portEnter s).stu = s.stu ∧ (portEnter s).rcu = s.rcu ∧ (portEnter s).cke = s.cke ∧ (portEnter s).prs = s.prs ∧
    (portEnter s).hfu = s.hfu ∧ (portEnter s).cml = s.cml ∧ (portEnter s).pending = s.pending := by
  refine ⟨rfl, rfl, rfl, rfl, rfl, rfl, rfl, rfl, rfl, rfl, rfl⟩

@[simp] theorem setNest_frame (n : NestState) :
    (setNest n s).pins = s.pins ∧ (setNest n s).rbc = s.rbc ∧ (setNest n s).dsu = s.dsu ∧ (setNest n s).stu = s.stu ∧
    (setNest n s).vnp = s.vnp ∧ (setNest n s).rcu = s.rcu ∧ (setNest n s).cke = s.cke ∧ (setNest n s).prs = s.prs ∧
    (setNest n s).hfu = s.hfu ∧ (setNest n s).cml = s.cml ∧ (setNest n s).pending = s.pending := by
  refine ⟨rfl, rfl, rfl, rfl, rfl, rfl, rfl, rfl, rfl, rfl, rfl⟩

@[simp] theorem clearMotion_frame :
    (clearMotion s).pins = s.pins ∧ (clearMotion s).rbc = s.rbc ∧ (clearMotion s).dsu = s.dsu ∧
    (clearMotion s).stu = s.stu ∧ (clearMotion s).vnp = s.vnp ∧ (clearMotion s).rcu = s.rcu ∧
    (clearMotion s).cke = s.cke ∧ (clearMotion s).prs = s.prs ∧ (clearMotion s).hfu = s.hfu ∧
    (clearMotion s).cml = s.cml ∧ (clearMotion s).pending = s.pending := by
  refine ⟨rfl, rfl, rfl, rfl, rfl, rfl, rfl, rfl, rfl, rfl, rfl⟩

@[simp] theorem enterPowered_frame :
    (enterPowered s).pins = s.pins ∧ (enterPowered s).rbc = s.rbc ∧ (enterPowered s).dsu = s.dsu ∧
    (enterPowered s).rcu = s.rcu ∧ (enterPowered s).cke = s.cke ∧ (enterPowered s).prs = s.prs ∧
    (enterPowered s).hfu = s.hfu ∧ (enterPowered s).cml = s.cml ∧ (enterPowered s).pending = s.pending := by
  unfold enterPowered
  dsimp only
  split <;> simp

@[simp] theorem leaveFor_frame (n : NestState) :
    (leaveFor n s).pins = s.pins ∧ (leaveFor n s).rbc = s.rbc ∧ (leaveFor n s).dsu = s.dsu ∧
    (leaveFor n s).rcu = s.rcu ∧ (leaveFor n s).cke = s.cke ∧ (leaveFor n s).prs = s.prs ∧
    (leaveFor n s).hfu = s.hfu ∧ (leaveFor n s).cml = s.cml ∧ (leaveFor n s).pending = s.pending := by
  unfold leaveFor
  dsimp only
  split <;> simp

@[simp] theorem derive_frame :
    (derive s).pins = s.pins ∧ (derive s).rbc = s.rbc ∧ (derive s).dsu = s.dsu ∧ (derive s).rcu = s.rcu ∧
    (derive s).cke = s.cke ∧ (derive s).prs = s.prs ∧ (derive s).hfu = s.hfu ∧ (derive s).cml = s.cml ∧
    (derive s).pending = s.pending := by simp [derive]

/-! ### Grants -/

@[simp] theorem grantOwn_frame :
    (grantOwn s).pins = s.pins ∧ (grantOwn s).rbc = s.rbc ∧ (grantOwn s).rcu = s.rcu ∧ (grantOwn s).cke = s.cke ∧
    (grantOwn s).prs = s.prs ∧ (grantOwn s).hfu = s.hfu ∧ (grantOwn s).pending = s.pending := by
  unfold grantOwn
  split <;> simp

@[simp] theorem judgeGrants_frame :
    (judgeGrants s).pins = s.pins ∧ (judgeGrants s).rbc = s.rbc ∧ (judgeGrants s).rcu = s.rcu ∧
    (judgeGrants s).cke = s.cke ∧ (judgeGrants s).prs = s.prs ∧ (judgeGrants s).hfu = s.hfu ∧
    (judgeGrants s).pending = s.pending := by
  unfold judgeGrants
  dsimp only
  split <;> simp

/-! ### Stimulus and prompts -/

@[simp] theorem stuSafe_frame :
    (stuSafe s).pins = s.pins ∧ (stuSafe s).rbc = s.rbc ∧ (stuSafe s).ncu = s.ncu ∧ (stuSafe s).dsu = s.dsu ∧
    (stuSafe s).vnp = s.vnp ∧ (stuSafe s).rcu = s.rcu ∧ (stuSafe s).cke = s.cke ∧ (stuSafe s).prs = s.prs ∧
    (stuSafe s).hfu = s.hfu ∧ (stuSafe s).cml = s.cml ∧ (stuSafe s).pending = s.pending := by
  refine ⟨rfl, rfl, rfl, rfl, rfl, rfl, rfl, rfl, rfl, rfl, rfl⟩

@[simp] theorem closeSlot_frame :
    (closeSlot s).pins = s.pins ∧ (closeSlot s).rbc = s.rbc ∧ (closeSlot s).ncu = s.ncu ∧ (closeSlot s).dsu = s.dsu ∧
    (closeSlot s).stu = s.stu ∧ (closeSlot s).vnp = s.vnp ∧ (closeSlot s).rcu = s.rcu ∧ (closeSlot s).cke = s.cke ∧
    (closeSlot s).hfu = s.hfu ∧ (closeSlot s).cml = s.cml ∧ (closeSlot s).pending = s.pending := by
  unfold closeSlot
  split <;> simp

@[simp] theorem cancelSlot_frame :
    (cancelSlot s).pins = s.pins ∧ (cancelSlot s).ncu = s.ncu ∧ (cancelSlot s).dsu = s.dsu ∧
    (cancelSlot s).stu = s.stu ∧ (cancelSlot s).vnp = s.vnp ∧ (cancelSlot s).rcu = s.rcu ∧
    (cancelSlot s).cke = s.cke ∧ (cancelSlot s).hfu = s.hfu ∧ (cancelSlot s).cml = s.cml ∧
    (cancelSlot s).pending = s.pending := by
  unfold cancelSlot
  split <;> simp

@[simp] theorem slotAtHalt_frame :
    (slotAtHalt s).pins = s.pins ∧ (slotAtHalt s).ncu = s.ncu ∧ (slotAtHalt s).dsu = s.dsu ∧
    (slotAtHalt s).stu = s.stu ∧ (slotAtHalt s).vnp = s.vnp ∧ (slotAtHalt s).rcu = s.rcu ∧
    (slotAtHalt s).cke = s.cke ∧ (slotAtHalt s).hfu = s.hfu ∧ (slotAtHalt s).cml = s.cml ∧
    (slotAtHalt s).pending = s.pending := by
  unfold slotAtHalt
  split
  · split <;> simp
  · simp

@[simp] theorem fillSlot_frame (h : Option CheckIdx) (k : PromptKind) (u : Bool) (m d : Nat) :
    (fillSlot h k u m d s).pins = s.pins ∧ (fillSlot h k u m d s).ncu = s.ncu ∧ (fillSlot h k u m d s).dsu = s.dsu ∧
    (fillSlot h k u m d s).stu = s.stu ∧ (fillSlot h k u m d s).vnp = s.vnp ∧ (fillSlot h k u m d s).rcu = s.rcu ∧
    (fillSlot h k u m d s).cke = s.cke ∧ (fillSlot h k u m d s).hfu = s.hfu ∧ (fillSlot h k u m d s).cml = s.cml ∧
    (fillSlot h k u m d s).pending = s.pending := by
  refine ⟨rfl, rfl, rfl, rfl, rfl, rfl, rfl, rfl, rfl, rfl⟩

end Sys2Proof.Machine
end

