-- ==== Sys2Proof/Laws/Evaluator.lean ====
section
/-! SUPPORT. What the operations of the check evaluator and of the station mode leave as it was. -/

namespace Sys2Proof.Machine

variable (s : State)

/-! ### Checks and channels -/

/-- Taking an edge leaves the settings and the run count of a lent channel (R104, R105). -/
@[simp] theorem Lent.take_keeps (l : Lent) (t : Stamp) :
    (l.take t).1.run = l.run ∧ (l.take t).1.holder = l.holder ∧ (l.take t).1.line = l.line ∧ (l.take t).1.rise = l.rise ∧
    (l.take t).1.filter = l.filter ∧ (l.take t).1.counts = l.counts ∧ (l.take t).1.theta = l.theta := by
  unfold Lent.take
  dsimp only
  repeat' split
  all_goals simp

/-- Replaying the kept edges leaves the settings and the run count. -/
@[simp] theorem Lent.replay_keeps (ts : List Stamp) : ∀ l : Lent,
    (l.replay ts).1.run = l.run ∧ (l.replay ts).1.holder = l.holder ∧ (l.replay ts).1.line = l.line ∧
    (l.replay ts).1.rise = l.rise ∧ (l.replay ts).1.filter = l.filter ∧ (l.replay ts).1.counts = l.counts ∧
    (l.replay ts).1.theta = l.theta := by
  induction ts with
  | nil => intro l; simp [Lent.replay]
  | cons t ts ih => intro l; simp [Lent.replay, ih]

/-- Between windows a channel keeps its settings and its run count (R105). -/
@[simp] theorem Lent.openAt_keeps (l : Lent) (t : Stamp) (span : Nat) :
    (l.openAt t span).1.run = l.run ∧ (l.openAt t span).1.holder = l.holder ∧ (l.openAt t span).1.line = l.line ∧
    (l.openAt t span).1.rise = l.rise ∧ (l.openAt t span).1.filter = l.filter ∧ (l.openAt t span).1.counts = l.counts ∧
    (l.openAt t span).1.theta = l.theta := by
  simp [Lent.openAt]

@[simp] theorem setCheck_frame (i : CheckIdx) (c : Check) :
    (setCheck i c s).pins = s.pins ∧ (setCheck i c s).rbc = s.rbc ∧ (setCheck i c s).ncu = s.ncu ∧
    (setCheck i c s).dsu = s.dsu ∧ (setCheck i c s).stu = s.stu ∧ (setCheck i c s).vnp = s.vnp ∧
    (setCheck i c s).rcu = s.rcu ∧ (setCheck i c s).prs = s.prs ∧ (setCheck i c s).hfu = s.hfu ∧
    (setCheck i c s).cml = s.cml ∧ (setCheck i c s).pending = s.pending := by
  refine ⟨rfl, rfl, rfl, rfl, rfl, rfl, rfl, rfl, rfl, rfl, rfl⟩

@[simp] theorem setMeas_frame (m : MeasIdx) (x : Option Lent) :
    (setMeas m x s).pins = s.pins ∧ (setMeas m x s).rbc = s.rbc ∧ (setMeas m x s).ncu = s.ncu ∧
    (setMeas m x s).dsu = s.dsu ∧ (setMeas m x s).stu = s.stu ∧ (setMeas m x s).vnp = s.vnp ∧
    (setMeas m x s).cke = s.cke ∧ (setMeas m x s).prs = s.prs ∧ (setMeas m x s).hfu = s.hfu ∧
    (setMeas m x s).cml = s.cml ∧ (setMeas m x s).pending = s.pending := by
  refine ⟨rfl, rfl, rfl, rfl, rfl, rfl, rfl, rfl, rfl, rfl, rfl⟩

@[simp] theorem postThreshold_frame (i : CheckIdx) (m : MeasIdx) (h : Option Stamp) :
    (postThreshold i m h s).pins = s.pins ∧ (postThreshold i m h s).rbc = s.rbc ∧
    (postThreshold i m h s).ncu = s.ncu ∧ (postThreshold i m h s).dsu = s.dsu ∧ (postThreshold i m h s).stu = s.stu ∧
    (postThreshold i m h s).vnp = s.vnp ∧ (postThreshold i m h s).rcu = s.rcu ∧ (postThreshold i m h s).cke = s.cke ∧
    (postThreshold i m h s).prs = s.prs ∧ (postThreshold i m h s).hfu = s.hfu ∧
    (postThreshold i m h s).pending = s.pending := by
  unfold postThreshold
  split <;> simp

@[simp] theorem openWindow_frame (i : CheckIdx) :
    (openWindow i s).pins = s.pins ∧ (openWindow i s).rbc = s.rbc ∧ (openWindow i s).ncu = s.ncu ∧
    (openWindow i s).dsu = s.dsu ∧ (openWindow i s).stu = s.stu ∧ (openWindow i s).vnp = s.vnp ∧
    (openWindow i s).prs = s.prs ∧ (openWindow i s).hfu = s.hfu ∧ (openWindow i s).cml = s.cml ∧
    (openWindow i s).pending = s.pending := by
  simp only [openWindow]
  repeat' split
  all_goals simp

@[simp] theorem addSample_frame (i : CheckIdx) (x : Sample) :
    (addSample i x s).pins = s.pins ∧ (addSample i x s).rbc = s.rbc ∧ (addSample i x s).ncu = s.ncu ∧
    (addSample i x s).dsu = s.dsu ∧ (addSample i x s).stu = s.stu ∧ (addSample i x s).vnp = s.vnp ∧
    (addSample i x s).rcu = s.rcu ∧ (addSample i x s).prs = s.prs ∧ (addSample i x s).hfu = s.hfu ∧
    (addSample i x s).cml = s.cml ∧ (addSample i x s).pending = s.pending := by
  refine ⟨rfl, rfl, rfl, rfl, rfl, rfl, rfl, rfl, rfl, rfl, rfl⟩

@[simp] theorem releaseChannel_frame (i : CheckIdx) :
    (releaseChannel i s).1.pins = s.pins ∧ (releaseChannel i s).1.rbc = s.rbc ∧ (releaseChannel i s).1.ncu = s.ncu ∧
    (releaseChannel i s).1.dsu = s.dsu ∧ (releaseChannel i s).1.stu = s.stu ∧ (releaseChannel i s).1.vnp = s.vnp ∧
    (releaseChannel i s).1.cke = s.cke ∧ (releaseChannel i s).1.prs = s.prs ∧ (releaseChannel i s).1.hfu = s.hfu ∧
    (releaseChannel i s).1.cml = s.cml ∧ (releaseChannel i s).1.pending = s.pending := by
  unfold releaseChannel
  split <;> simp

@[simp] theorem recordEnding_frame (i : CheckIdx) (st : CheckState) (v : Verdict) (ca : Option AbortCause) (f : Flags) :
    (recordEnding i st v ca f s).pins = s.pins ∧ (recordEnding i st v ca f s).rbc = s.rbc ∧
    (recordEnding i st v ca f s).ncu = s.ncu ∧ (recordEnding i st v ca f s).dsu = s.dsu ∧
    (recordEnding i st v ca f s).stu = s.stu ∧ (recordEnding i st v ca f s).vnp = s.vnp ∧
    (recordEnding i st v ca f s).rcu = s.rcu ∧ (recordEnding i st v ca f s).prs = s.prs ∧
    (recordEnding i st v ca f s).hfu = s.hfu ∧ (recordEnding i st v ca f s).cml = s.cml ∧
    (recordEnding i st v ca f s).pending = s.pending := by
  refine ⟨rfl, rfl, rfl, rfl, rfl, rfl, rfl, rfl, rfl, rfl, rfl⟩

@[simp] theorem endDone_frame (i : CheckIdx) (f : Flags) :
    (endDone i f s).1.pins = s.pins ∧ (endDone i f s).1.rbc = s.rbc ∧ (endDone i f s).1.ncu = s.ncu ∧
    (endDone i f s).1.dsu = s.dsu ∧ (endDone i f s).1.stu = s.stu ∧ (endDone i f s).1.vnp = s.vnp ∧
    (endDone i f s).1.prs = s.prs ∧ (endDone i f s).1.hfu = s.hfu ∧ (endDone i f s).1.pending = s.pending := by
  simp [endDone]

@[simp] theorem endPrompt_frame (c : AbortCause) :
    (endPrompt c s).pins = s.pins ∧ (endPrompt c s).ncu = s.ncu ∧ (endPrompt c s).dsu = s.dsu ∧
    (endPrompt c s).stu = s.stu ∧ (endPrompt c s).vnp = s.vnp ∧ (endPrompt c s).rcu = s.rcu ∧
    (endPrompt c s).cke = s.cke ∧ (endPrompt c s).hfu = s.hfu ∧ (endPrompt c s).cml = s.cml ∧
    (endPrompt c s).pending = s.pending := by
  unfold endPrompt
  split <;> simp

@[simp] theorem abortOne_frame (c : AbortCause) (i : CheckIdx) :
    (abortOne c i s).1.pins = s.pins ∧ (abortOne c i s).1.ncu = s.ncu ∧ (abortOne c i s).1.dsu = s.dsu ∧
    (abortOne c i s).1.stu = s.stu ∧ (abortOne c i s).1.vnp = s.vnp ∧ (abortOne c i s).1.hfu = s.hfu ∧
    (abortOne c i s).1.cml = s.cml ∧ (abortOne c i s).1.pending = s.pending := by
  simp only [abortOne]
  repeat' split
  all_goals simp_all

/-- Aborting a list keeps what aborting one check keeps. -/
theorem abortList_keeps {α : Type} (f : State → α) (cause : AbortCause)
    (h : ∀ i t, f (abortOne cause i t).1 = f t) : ∀ (is : List CheckIdx) (s : State), f (abortList cause is s).1 = f s := by
  intro is
  induction is with
  | nil => intro s; rfl
  | cons i is ih => intro s; simp only [abortList]; rw [ih, h]

@[simp] theorem abortList_frame (c : AbortCause) (is : List CheckIdx) :
    (abortList c is s).1.pins = s.pins ∧ (abortList c is s).1.ncu = s.ncu ∧ (abortList c is s).1.dsu = s.dsu ∧
    (abortList c is s).1.stu = s.stu ∧ (abortList c is s).1.vnp = s.vnp ∧ (abortList c is s).1.hfu = s.hfu ∧
    (abortList c is s).1.cml = s.cml ∧ (abortList c is s).1.pending = s.pending := by
  refine ⟨?_, ?_, ?_, ?_, ?_, ?_, ?_, ?_⟩ <;>
    exact abortList_keeps _ c (fun i t => by simp) is s

/-! ### What depends on the checks alone -/

theorem armInsert_congr {s t : State} (h : s.cke = t.cke) (i : CheckIdx) :
    ∀ is : List CheckIdx, armInsert s i is = armInsert t i is := by
  have hk : ∀ i, armKey s i = armKey t i := by
    intro i
    unfold armKey
    rw [h]
  intro is
  induction is with
  | nil => rfl
  | cons j js ih => simp only [armInsert, hk, ih]

theorem inArmOrder_congr {s t : State} (h : s.cke = t.cke) (is : List CheckIdx) : inArmOrder s is = inArmOrder t is := by
  unfold inArmOrder
  congr 1
  funext i is
  exact armInsert_congr h i is

theorem checksWith_congr {s t : State} (h : s.cke = t.cke) (p : CheckIdx → Check → Bool) :
    checksWith s p = checksWith t p := by
  simp only [checksWith, h]

theorem waitList_congr {s t : State} (h : s.cke = t.cke) (m : MeasIdx) : waitList s m = waitList t m := by
  simp only [waitList, inArmOrder_congr h, checksWith_congr h]

theorem slotWaiters_congr {s t : State} (h : s.cke = t.cke) : slotWaiters s = slotWaiters t := by
  simp only [slotWaiters, inArmOrder_congr h, checksWith_congr h]

/-! ### Starting and work -/

@[simp] theorem meetStart_frame (t : Stamp) (i : CheckIdx) :
    (meetStart t i s).pins = s.pins ∧ (meetStart t i s).rbc = s.rbc ∧ (meetStart t i s).ncu = s.ncu ∧
    (meetStart t i s).dsu = s.dsu ∧ (meetStart t i s).stu = s.stu ∧ (meetStart t i s).vnp = s.vnp ∧
    (meetStart t i s).rcu = s.rcu ∧ (meetStart t i s).prs = s.prs ∧ (meetStart t i s).hfu = s.hfu ∧
    (meetStart t i s).cml = s.cml ∧ (meetStart t i s).pending = s.pending := by
  refine ⟨rfl, rfl, rfl, rfl, rfl, rfl, rfl, rfl, rfl, rfl, rfl⟩

/-- A fold of one operation over a list keeps what the operation keeps. -/
theorem foldl_keeps {α β : Type} (f : State → α) (g : State → β → State) (h : ∀ t b, f (g t b) = f t) :
    ∀ (bs : List β) (s : State), f (bs.foldl g s) = f s := by
  intro bs
  induction bs with
  | nil => intro s; rfl
  | cons b bs ih => intro s; simp only [List.foldl_cons]; rw [ih, h]

@[simp] theorem startList_frame (t : Stamp) (is : List CheckIdx) :
    (startList t is s).1.pins = s.pins ∧ (startList t is s).1.rbc = s.rbc ∧ (startList t is s).1.ncu = s.ncu ∧
    (startList t is s).1.dsu = s.dsu ∧ (startList t is s).1.stu = s.stu ∧ (startList t is s).1.vnp = s.vnp ∧
    (startList t is s).1.rcu = s.rcu ∧ (startList t is s).1.prs = s.prs ∧ (startList t is s).1.hfu = s.hfu ∧
    (startList t is s).1.cml = s.cml ∧ (startList t is s).1.pending = s.pending := by
  refine ⟨?_, ?_, ?_, ?_, ?_, ?_, ?_, ?_, ?_, ?_, ?_⟩ <;>
    exact foldl_keeps _ _ (fun u i => by simp) is s

@[simp] theorem startOn_frame (t : Stamp) (p : CheckDef → Bool) :
    (startOn t p s).1.pins = s.pins ∧ (startOn t p s).1.rbc = s.rbc ∧ (startOn t p s).1.ncu = s.ncu ∧
    (startOn t p s).1.dsu = s.dsu ∧ (startOn t p s).1.stu = s.stu ∧ (startOn t p s).1.vnp = s.vnp ∧
    (startOn t p s).1.rcu = s.rcu ∧ (startOn t p s).1.prs = s.prs ∧ (startOn t p s).1.hfu = s.hfu ∧
    (startOn t p s).1.cml = s.cml ∧ (startOn t p s).1.pending = s.pending := by
  unfold startOn
  split <;> simp

@[simp] theorem lendFirst_frame (m : MeasIdx) :
    (lendFirst m s).pins = s.pins ∧ (lendFirst m s).rbc = s.rbc ∧ (lendFirst m s).ncu = s.ncu ∧
    (lendFirst m s).dsu = s.dsu ∧ (lendFirst m s).stu = s.stu ∧ (lendFirst m s).vnp = s.vnp ∧
    (lendFirst m s).prs = s.prs ∧ (lendFirst m s).hfu = s.hfu ∧ (lendFirst m s).cml = s.cml ∧
    (lendFirst m s).pending = s.pending := by
  unfold lendFirst
  split <;> simp

@[simp] theorem slotToFirst_frame :
    (slotToFirst s).1.pins = s.pins ∧ (slotToFirst s).1.ncu = s.ncu ∧ (slotToFirst s).1.dsu = s.dsu ∧
    (slotToFirst s).1.stu = s.stu ∧ (slotToFirst s).1.vnp = s.vnp ∧ (slotToFirst s).1.hfu = s.hfu ∧
    (slotToFirst s).1.pending = s.pending := by
  simp only [slotToFirst]
  repeat' split
  all_goals simp

@[simp] theorem settleEnded_frame (i : CheckIdx) :
    (settleEnded i s).1.pins = s.pins ∧ (settleEnded i s).1.rbc = s.rbc ∧ (settleEnded i s).1.ncu = s.ncu ∧
    (settleEnded i s).1.dsu = s.dsu ∧ (settleEnded i s).1.stu = s.stu ∧ (settleEnded i s).1.vnp = s.vnp ∧
    (settleEnded i s).1.prs = s.prs ∧ (settleEnded i s).1.hfu = s.hfu ∧ (settleEnded i s).1.cml = s.cml ∧
    (settleEnded i s).1.pending = s.pending := by
  simp only [settleEnded]
  repeat' split
  all_goals simp

@[simp] theorem stepWork_frame (w : Work) :
    (stepWork w s).1.pins = s.pins ∧ (stepWork w s).1.ncu = s.ncu ∧ (stepWork w s).1.dsu = s.dsu ∧
    (stepWork w s).1.stu = s.stu ∧ (stepWork w s).1.vnp = s.vnp ∧ (stepWork w s).1.hfu = s.hfu ∧
    (stepWork w s).1.pending = s.pending := by
  cases w <;> simp [stepWork]

/-- Working off keeps what each piece of work keeps. -/
theorem runWork_keeps {α : Type} (f : State → α) (h : ∀ w t, f (stepWork w t).1 = f t) :
    ∀ (n : Nat) (ws : List Work) (s : State), f (runWork n ws s) = f s := by
  intro n
  induction n with
  | zero => intro ws s; rfl
  | succ n ih =>
    intro ws s
    cases ws with
    | nil => rfl
    | cons w ws => simp only [runWork]; rw [ih, h]

/-- What a predicate of states has to be closed under to hold after work. -/
theorem runWork_induct (P : State → Prop) (h : ∀ w t, P t → P (stepWork w t).1) :
    ∀ (n : Nat) (ws : List Work) (s : State), P s → P (runWork n ws s) := by
  intro n
  induction n with
  | zero => intro ws s hs; exact hs
  | succ n ih =>
    intro ws s hs
    cases ws with
    | nil => exact hs
    | cons w ws => exact ih _ _ (h w s hs)

@[simp] theorem runWork_frame (n : Nat) (ws : List Work) :
    (runWork n ws s).pins = s.pins ∧ (runWork n ws s).ncu = s.ncu ∧ (runWork n ws s).dsu = s.dsu ∧
    (runWork n ws s).stu = s.stu ∧ (runWork n ws s).vnp = s.vnp ∧ (runWork n ws s).hfu = s.hfu ∧
    (runWork n ws s).pending = s.pending := by
  refine ⟨?_, ?_, ?_, ?_, ?_, ?_, ?_⟩ <;>
    exact runWork_keeps _ (fun w t => by simp) n ws s

@[simp] theorem settleWork_frame (x : State × List Work) :
    (settleWork x).pins = x.1.pins ∧ (settleWork x).ncu = x.1.ncu ∧ (settleWork x).dsu = x.1.dsu ∧ (settleWork x).stu = x.1.stu ∧ (settleWork x).vnp = x.1.vnp ∧ (settleWork x).hfu = x.1.hfu ∧ (settleWork x).pending = x.1.pending := by
  simp [settleWork]

@[simp] theorem abortSet_frame (c : AbortCause) (p : CheckIdx → Check → Bool) :
    (abortSet c p s).pins = s.pins ∧ (abortSet c p s).ncu = s.ncu ∧ (abortSet c p s).dsu = s.dsu ∧
    (abortSet c p s).stu = s.stu ∧ (abortSet c p s).vnp = s.vnp ∧ (abortSet c p s).hfu = s.hfu ∧
    (abortSet c p s).pending = s.pending := by
  simp [abortSet]

@[simp] theorem abortAll_frame (c : AbortCause) :
    (abortAll c s).pins = s.pins ∧ (abortAll c s).ncu = s.ncu ∧ (abortAll c s).dsu = s.dsu ∧
    (abortAll c s).stu = s.stu ∧ (abortAll c s).vnp = s.vnp ∧ (abortAll c s).hfu = s.hfu ∧
    (abortAll c s).pending = s.pending := by
  simp [abortAll]

@[simp] theorem abortContained_frame :
    (abortContained s).pins = s.pins ∧ (abortContained s).ncu = s.ncu ∧ (abortContained s).dsu = s.dsu ∧
    (abortContained s).stu = s.stu ∧ (abortContained s).vnp = s.vnp ∧ (abortContained s).hfu = s.hfu ∧
    (abortContained s).cml = s.cml ∧ (abortContained s).pending = s.pending := by
  simp [abortContained]

@[simp] theorem handRaw_frame (p : CheckDef → Bool) (f : RawFigure → RawFigure) :
    (handRaw p f s).pins = s.pins ∧ (handRaw p f s).rbc = s.rbc ∧ (handRaw p f s).ncu = s.ncu ∧
    (handRaw p f s).dsu = s.dsu ∧ (handRaw p f s).stu = s.stu ∧ (handRaw p f s).vnp = s.vnp ∧
    (handRaw p f s).rcu = s.rcu ∧ (handRaw p f s).prs = s.prs ∧ (handRaw p f s).hfu = s.hfu ∧
    (handRaw p f s).cml = s.cml ∧ (handRaw p f s).pending = s.pending := by
  simp [handRaw]

@[simp] theorem handMatch_frame (g : GroupIdx) :
    (handMatch g s).pins = s.pins ∧ (handMatch g s).ncu = s.ncu ∧ (handMatch g s).dsu = s.dsu ∧
    (handMatch g s).stu = s.stu ∧ (handMatch g s).vnp = s.vnp ∧ (handMatch g s).hfu = s.hfu ∧
    (handMatch g s).pending = s.pending := by
  simp [handMatch]

@[simp] theorem handHit_frame (h : Hit) :
    (handHit h s).pins = s.pins ∧ (handHit h s).rbc = s.rbc ∧ (handHit h s).ncu = s.ncu ∧
    (handHit h s).dsu = s.dsu ∧ (handHit h s).stu = s.stu ∧ (handHit h s).vnp = s.vnp ∧
    (handHit h s).rcu = s.rcu ∧ (handHit h s).prs = s.prs ∧ (handHit h s).hfu = s.hfu ∧
    (handHit h s).cml = s.cml ∧ (handHit h s).pending = s.pending := by
  simp [handHit]

@[simp] theorem handCurrent_frame (x : Nat) :
    (handCurrent x s).pins = s.pins ∧ (handCurrent x s).rbc = s.rbc ∧ (handCurrent x s).ncu = s.ncu ∧
    (handCurrent x s).dsu = s.dsu ∧ (handCurrent x s).stu = s.stu ∧ (handCurrent x s).vnp = s.vnp ∧
    (handCurrent x s).rcu = s.rcu ∧ (handCurrent x s).prs = s.prs ∧ (handCurrent x s).hfu = s.hfu ∧
    (handCurrent x s).cml = s.cml ∧ (handCurrent x s).pending = s.pending := by
  simp [handCurrent]

@[simp] theorem handThreshold_frame (i : CheckIdx) (t : Stamp) :
    (handThreshold i t s).pins = s.pins ∧ (handThreshold i t s).ncu = s.ncu ∧ (handThreshold i t s).dsu = s.dsu ∧
    (handThreshold i t s).stu = s.stu ∧ (handThreshold i t s).vnp = s.vnp ∧ (handThreshold i t s).hfu = s.hfu ∧
    (handThreshold i t s).pending = s.pending := by
  simp [handThreshold]

@[simp] theorem handFrame_frame :
    (handFrame s).pins = s.pins ∧ (handFrame s).ncu = s.ncu ∧ (handFrame s).dsu = s.dsu ∧ (handFrame s).stu = s.stu ∧
    (handFrame s).vnp = s.vnp ∧ (handFrame s).hfu = s.hfu ∧ (handFrame s).pending = s.pending := by
  simp [handFrame]

@[simp] theorem handOutcome_frame (h : Option CheckIdx) (x : Sample) :
    (handOutcome h x s).pins = s.pins ∧ (handOutcome h x s).ncu = s.ncu ∧ (handOutcome h x s).dsu = s.dsu ∧
    (handOutcome h x s).stu = s.stu ∧ (handOutcome h x s).vnp = s.vnp ∧ (handOutcome h x s).hfu = s.hfu ∧
    (handOutcome h x s).pending = s.pending := by
  simp only [handOutcome]
  repeat' split
  all_goals simp

@[simp] theorem disturb_frame (i : CheckIdx) :
    (disturb i s).1.pins = s.pins ∧ (disturb i s).1.rbc = s.rbc ∧ (disturb i s).1.ncu = s.ncu ∧
    (disturb i s).1.dsu = s.dsu ∧ (disturb i s).1.stu = s.stu ∧ (disturb i s).1.vnp = s.vnp ∧
    (disturb i s).1.prs = s.prs ∧ (disturb i s).1.hfu = s.hfu ∧ (disturb i s).1.pending = s.pending := by
  simp only [disturb]
  split <;> simp

/-! ### The station mode -/

@[simp] theorem supplyAtHalt_frame :
    (supplyAtHalt s).pins = s.pins ∧ (supplyAtHalt s).ncu = s.ncu ∧ (supplyAtHalt s).stu = s.stu ∧
    (supplyAtHalt s).vnp = s.vnp ∧ (supplyAtHalt s).rcu = s.rcu ∧ (supplyAtHalt s).cke = s.cke ∧
    (supplyAtHalt s).prs = s.prs ∧ (supplyAtHalt s).hfu = s.hfu ∧ (supplyAtHalt s).cml = s.cml ∧
    (supplyAtHalt s).pending = s.pending := by
  simp only [supplyAtHalt]
  split <;> simp

@[simp] theorem failSwitchOver_frame (n : Nat) :
    (failSwitchOver n s).pins = s.pins ∧ (failSwitchOver n s).rbc = s.rbc ∧ (failSwitchOver n s).ncu = s.ncu ∧
    (failSwitchOver n s).stu = s.stu ∧ (failSwitchOver n s).vnp = s.vnp ∧ (failSwitchOver n s).rcu = s.rcu ∧
    (failSwitchOver n s).cke = s.cke ∧ (failSwitchOver n s).prs = s.prs ∧ (failSwitchOver n s).hfu = s.hfu ∧
    (failSwitchOver n s).pending = s.pending := by
  unfold failSwitchOver
  split <;> simp

@[simp] theorem supplySevere_frame (n : NestState) :
    (supplySevere n s).pins = s.pins ∧ (supplySevere n s).ncu = s.ncu ∧ (supplySevere n s).stu = s.stu ∧
    (supplySevere n s).vnp = s.vnp ∧ (supplySevere n s).rcu = s.rcu ∧ (supplySevere n s).cke = s.cke ∧
    (supplySevere n s).prs = s.prs ∧ (supplySevere n s).hfu = s.hfu ∧ (supplySevere n s).cml = s.cml ∧
    (supplySevere n s).pending = s.pending := by
  simp only [supplySevere]
  repeat' split
  all_goals simp

@[simp] theorem supplyContained_frame (n : NestState) :
    (supplyContained n s).pins = s.pins ∧ (supplyContained n s).ncu = s.ncu ∧ (supplyContained n s).stu = s.stu ∧
    (supplyContained n s).vnp = s.vnp ∧ (supplyContained n s).rcu = s.rcu ∧ (supplyContained n s).cke = s.cke ∧
    (supplyContained n s).prs = s.prs ∧ (supplyContained n s).hfu = s.hfu ∧ (supplyContained n s).pending = s.pending := by
  unfold supplyContained
  split <;> simp

@[simp] theorem setMode_frame (m : Mode) :
    (setMode m s).pins = s.pins ∧ (setMode m s).rbc = s.rbc ∧ (setMode m s).ncu = s.ncu ∧ (setMode m s).dsu = s.dsu ∧
    (setMode m s).stu = s.stu ∧ (setMode m s).vnp = s.vnp ∧ (setMode m s).rcu = s.rcu ∧ (setMode m s).cke = s.cke ∧
    (setMode m s).prs = s.prs ∧ (setMode m s).cml = s.cml ∧ (setMode m s).pending = s.pending := by
  refine ⟨rfl, rfl, rfl, rfl, rfl, rfl, rfl, rfl, rfl, rfl, rfl⟩

@[simp] theorem updEntry_frame (f : FaultEntry → FaultEntry) :
    (updEntry f s).pins = s.pins ∧ (updEntry f s).rbc = s.rbc ∧ (updEntry f s).ncu = s.ncu ∧
    (updEntry f s).dsu = s.dsu ∧ (updEntry f s).stu = s.stu ∧ (updEntry f s).vnp = s.vnp ∧
    (updEntry f s).rcu = s.rcu ∧ (updEntry f s).cke = s.cke ∧ (updEntry f s).prs = s.prs ∧
    (updEntry f s).cml = s.cml ∧ (updEntry f s).pending = s.pending := by
  refine ⟨rfl, rfl, rfl, rfl, rfl, rfl, rfl, rfl, rfl, rfl, rfl⟩

end Sys2Proof.Machine
end

