-- ==== Sys2Proof/Laws/Bus.lean ====
section
/-! SUPPORT. What the operations of Machine/Bus.lean do to the line and leave as it was: the veto slot, the start of a frame, the settling of the own frame, and its PROMPT_REQ; and what a fault entry records. -/

namespace Sys2Proof.Machine

variable (s : State)

@[simp] theorem driveVeto_frame (b : Bool) :
    (driveVeto b s).pins = s.pins ∧ (driveVeto b s).ncu = s.ncu ∧ (driveVeto b s).dsu = s.dsu ∧
    (driveVeto b s).stu = s.stu ∧ (driveVeto b s).vnp = s.vnp ∧ (driveVeto b s).rcu = s.rcu ∧
    (driveVeto b s).cke = s.cke ∧ (driveVeto b s).prs = s.prs ∧ (driveVeto b s).hfu = s.hfu ∧
    (driveVeto b s).cml = s.cml ∧ (driveVeto b s).pending = s.pending := by
  refine ⟨rfl, rfl, rfl, rfl, rfl, rfl, rfl, rfl, rfl, rfl, rfl⟩

/-- All that a drive of the veto slot does. -/
theorem driveVeto_rbc (b : Bool) : (driveVeto b s).rbc = { s.rbc with veto := b } := rfl

@[simp] theorem driveVeto_twice (a b : Bool) : driveVeto a (driveVeto b s) = driveVeto a s := rfl

@[simp] theorem settleOwn_frame (k : FrameKind) :
    (settleOwn k s).pins = s.pins ∧ (settleOwn k s).ncu = s.ncu ∧ (settleOwn k s).dsu = s.dsu ∧
    (settleOwn k s).stu = s.stu ∧ (settleOwn k s).vnp = s.vnp ∧ (settleOwn k s).rcu = s.rcu ∧
    (settleOwn k s).cke = s.cke ∧ (settleOwn k s).prs = s.prs ∧ (settleOwn k s).hfu = s.hfu ∧
    (settleOwn k s).cml = s.cml ∧ (settleOwn k s).pending = s.pending := by
  refine ⟨rfl, rfl, rfl, rfl, rfl, rfl, rfl, rfl, rfl, rfl, rfl⟩

@[simp] theorem startFrame_frame (i : StationIdx) (k : FrameKind) (p : Payload) (a : Nat) :
    (startFrame i k p a s).pins = s.pins ∧ (startFrame i k p a s).ncu = s.ncu ∧ (startFrame i k p a s).dsu = s.dsu ∧
    (startFrame i k p a s).stu = s.stu ∧ (startFrame i k p a s).vnp = s.vnp ∧ (startFrame i k p a s).rcu = s.rcu ∧
    (startFrame i k p a s).cke = s.cke ∧ (startFrame i k p a s).prs = s.prs ∧ (startFrame i k p a s).hfu = s.hfu ∧
    (startFrame i k p a s).cml = s.cml ∧ (startFrame i k p a s).pending = s.pending := by
  refine ⟨rfl, rfl, rfl, rfl, rfl, rfl, rfl, rfl, rfl, rfl, rfl⟩

/-- A frame that has started: its slot is IN_FLIGHT with what is on the line, and the bus is BUSY (R9). -/
theorem startFrame_rbc (i : StationIdx) (k : FrameKind) (p : Payload) (a : Nat) :
    (startFrame i k p a s).rbc.slot k = .inFlight (assembled p s) a none false ∧
    (startFrame i k p a s).rbc.bus = .busy ∧
    (startFrame i k p a s).rbc.driven = some (frameLineBits (driveFrame i.val (assembled p s))) := by
  refine ⟨?_, rfl, rfl⟩
  simp [startFrame, Rbc.slot, Rbc.setSlot, vset]

/-- An accepted own PROMPT_REQ that is not the request of the prompt slot changes nothing (R139). -/
theorem ownReqAccepted_other {s : State} {k : PromptKind} {u : Bool} {m : Nat} {tag : Tag}
    (h : ∀ p, s.prs.slot = some p → p.asks k u m tag = false) : ownReqAccepted k u m tag s = s := by
  unfold ownReqAccepted
  split
  · next p hp => simp [h p hp]
  · rfl

/-- An accepted own PROMPT_REQ of the slot's ACTION or JUDGE request starts its answer timer, and nothing else (R139). -/
theorem ownReqAccepted_asked {s : State} {p : PromptSlot} (hp : s.prs.slot = some p) (ha : p.answer = none)
    (hk : p.kind ≠ .notice) : ownReqAccepted p.kind p.urgent p.message p.tag s =
      s.withPrs { s.prs with slot := some { p with answer := some ((conf s).promptTime * Config.ticksPerS) } } := by
  simp [ownReqAccepted, hp, ha, hk, PromptSlot.asks]

/-- The fault record that an entry leaves holds the cause, and the nest state and the mode that it found (R164, R165). -/
theorem faultEntry_record (c : Cause) (s : State) :
    ∃ e, (faultEntry c s).hfu.entry = some e ∧ e.cause = c ∧ e.nest = s.ncu.nest ∧ e.entryMode = s.hfu.mode ∧
      (faultEntry c s).hfu.mode = .fault := by
  exact ⟨_, rfl, rfl, rfl, rfl, rfl⟩

end Sys2Proof.Machine
end

