-- ==== Sys2Proof/Laws/Link.lean ====
section
/-! SUPPORT. What a command write does (R173): the two outcomes of `linkCommand`, and the readers that the link status byte does not reach. -/

namespace Sys2Proof.Machine

variable (s : State)

/-! ### The link status byte reaches no reader -/

@[simp] theorem configured_shiftStatus : configured (shiftStatus s) = configured s := rfl
@[simp] theorem conf_shiftStatus : conf (shiftStatus s) = conf s := rfl
@[simp] theorem ownIdx_shiftStatus : ownIdx (shiftStatus s) = ownIdx s := rfl
@[simp] theorem cursor_shiftStatus : (shiftStatus s).cml.cursor = s.cml.cursor := rfl
@[simp] theorem events_shiftStatus : (shiftStatus s).cml.events = s.cml.events := rfl
@[simp] theorem cmdSeq_shiftStatus : (shiftStatus s).cml.cmdSeq = s.cml.cmdSeq := rfl
@[simp] theorem strapPanel_shiftStatus : (shiftStatus s).cml.strapPanel = s.cml.strapPanel := rfl
@[simp] theorem config_shiftStatus : (shiftStatus s).cml.config = s.cml.config := rfl

@[simp] theorem haltInput_shiftStatus : haltInput (shiftStatus s) = haltInput s := rfl

@[simp] theorem ownBeacon_shiftStatus : ownBeacon (shiftStatus s) = ownBeacon s := rfl

@[simp] theorem rawFigure_shiftStatus (i : CheckIdx) (w : CheckWindow) : rawFigure i w (shiftStatus s) = rawFigure i w s := rfl

@[simp] theorem tableEnd_shiftStatus (t : Table) : tableEnd (shiftStatus s) t = tableEnd s t := by
  cases t <;> simp [tableEnd]

@[simp] theorem tableRecord_shiftStatus (t : Table) (i : Nat) : tableRecord (shiftStatus s) t i = tableRecord s t i := by
  cases t <;> simp [tableRecord, resultOf, patternRecord, peerRead, channelRecord]

@[simp] theorem sourceGood_shiftStatus (r : Rail) : sourceGood (shiftStatus s) r = sourceGood s r := by
  cases r <;> rfl

@[simp] theorem feedback_shiftStatus (r : Rail) : feedback (shiftStatus s) r = feedback s r := by
  cases r <;> rfl

@[simp] theorem waitList_shiftStatus (m : MeasIdx) : waitList (shiftStatus s) m = waitList s m :=
  waitList_congr (s := shiftStatus s) (t := s) rfl m

@[simp] theorem statusRecord_shiftStatus : statusRecord (shiftStatus s) = statusRecord s := by
  have hl : linkBytes (shiftStatus s) = linkBytes s := rfl
  have hb : busBytes (shiftStatus s) = busBytes s := rfl
  have hm : modeBytes (shiftStatus s) = modeBytes s := rfl
  have hf : faultBytes (shiftStatus s) = faultBytes s := rfl
  have hn : nestBytes (shiftStatus s) = nestBytes s := rfl
  have hs : supplyBytes (shiftStatus s) = supplyBytes s := rfl
  have ht : stimulusBytes (shiftStatus s) = stimulusBytes s := rfl
  have hv : networkBytes (shiftStatus s) = networkBytes s := rfl
  have hc : captureBytes (shiftStatus s) = captureBytes s := by simp [captureBytes]
  have hk : checksBytes (shiftStatus s) = checksBytes s := rfl
  have hp : promptBytes (shiftStatus s) = promptBytes s := rfl
  unfold statusRecord
  rw [hl, hb, hm, hf, hn, hs, ht, hv, hc, hk, hp]

/-! ### The two outcomes of a command write -/

variable {s}
variable {code : Nat} {allowed : Nat → Bool} {test : ConfigTest} {gate : Gate} {p : Params}
  {owner : List Byte → State → State × Reply}

/-- A command refused at tests 2 to 4 reaches no block: its refusal is placed. -/
theorem linkCommand_refused {st : Status} (h : linkRefusal allowed test gate p s = some st) :
    linkCommand code allowed test gate p owner s =
      placeResponse (BitVec.ofNat 8 code) (refuse st) (shiftStatus s) := by
  have h' : linkRefusal allowed test gate p (shiftStatus s) = some st := h
  simp only [linkCommand, h']

/-- A command that passes the tests is handed to its owner, whose answer is placed. -/
theorem linkCommand_taken (h : linkRefusal allowed test gate p s = none) :
    linkCommand code allowed test gate p owner s =
      placeResponse (BitVec.ofNat 8 code) (owner p.bytes (shiftStatus s)).2 (owner p.bytes (shiftStatus s)).1 := by
  have h' : linkRefusal allowed test gate p (shiftStatus s) = none := h
  simp only [linkCommand, h']

/-- Tests 2 to 4 of R173 are passed by a sound command of a configured station in a mode that the gate passes. -/
theorem linkRefusal_none (hl : p.bytes.length = p.len) (ha : allowed p.len = true) (hc : configured s = true)
    (ht : test ≠ .once) (hg : gate.passes s.hfu.mode = true) : linkRefusal allowed test gate p s = none := by
  have : test.refusal (configured s) = none := by
    rw [hc]; cases test
    · rfl
    · rfl
    · exact absurd rfl ht
  simp [linkRefusal, hl, ha, this, hg]

end Sys2Proof.Machine
end

