-- ==== Sys2Proof/Tests/Slice0.lean ====
section
/-! SUPPORT. Tests of the TS410 model: the refusals of WellFormed, the worked examples of the manual, single commands on small states, and for each statement of Obligations.lean a concrete state and operands that meet its hypotheses. -/

namespace Sys2Proof.Tests
open Sys2Proof Sys2Proof.Machine
set_option Elab.async false

/-! ## Helpers -/

/-- The state after a command meets a test. -/
def did (c : Instr) (s : State) (p : State → Bool) : Bool :=
  match nextOf (exec c s) with
  | some t => p t
  | none => false

/-- An outcome with a next state is that next state. -/
theorem next_of_some {o : Answered} (h : (nextOf o).isSome = true) : ∃ t, o = .next t := by
  cases o with
  | next t => exact ⟨t, rfl⟩
  | fault f => cases h
  | refused r => cases h

/-- The configuration of the stations below. -/
def asked : StationConfig :=
  { sMax := 2, tInrush := 200, iInrush := 100, iRun := 50, tripDelay := 3, clampLimit := 3000, frameMs := 10,
    promptTime := 120, safePattern := 0, bitRate := 500 }

/-- A configured panel station of index 1, in NORMAL with an empty nest, its transmitter ON and both sources good. -/
def station : State :=
  let s := State.ofPins { Pins.quiet with strapIndex := 1, strapPanel := true, mainOk := true, auxOk := true }
  { s with cml := { s.cml with config := some asked }, rbc := { s.rbc with tx := .on, sEff := 2, synced := true }
           ncu := { s.ncu with nest := .empty }, prs := { s.prs with role := true } }

def inMode (m : Mode) (s : State) : State := { s with hfu := { s.hfu with mode := m } }
def inNest (n : NestState) (s : State) : State := { s with ncu := { s.ncu with nest := n } }

/-- Both seats assert. -/
def placed (s : State) : State :=
  { s with pins := { s.pins with seatA := true, seatB := true }
           ncu := { s.ncu with seatA := .at true, seatB := .at true } }

/-- The clamp is closed. -/
def closed (s : State) : State :=
  { s with pins := { s.pins with clampClosed := true }, ncu := { s.ncu with clampClosed := .at true } }

/-- SEATED. -/
def seatedStation : State := inNest .seated (placed station)

/-- CLAMPED. -/
def clampedStation : State := inNest .clamped (closed (placed station))

/-- POWERED on MAIN, the counter running and the port ACTIVE. -/
def poweredStation : State :=
  let s := inNest .powered (closed (placed station))
  { s with pins := { s.pins with mainFb := true }
           dsu := { s.dsu with main := { Switch.resting with closed := true }, requested := some .main }
           stu := { s.stu with counter := .running, frameTimer := some 100000, frame := 41 }
           vnp := { s.vnp with port := .active, scheduler := true } }

/-- HALTED by its own halt input. -/
def haltedStation : State :=
  let s := inMode .halted station
  { s with hfu := { s.hfu with sources := vset s.hfu.sources 1 true }
           pins := { s.pins with haltIn := true }, ncu := { s.ncu with haltIn := .at true } }

/-- A contained fault entered from POWERED. -/
def contained : FaultEntry :=
  { cause := .vnBusOff 256 0, entryMode := .normal, haltFlag := false, nest := .powered, mainClosed := true
    auxClosed := false, frame := 41, sample := 0, tick := 7, aborted := 0, lowest := none, checkOpen := false
    recoverable := true, second := none, later := 0 }

/-- FAULT, with a recoverable record. -/
def faultStation : State :=
  let s := inMode .fault poweredStation
  { s with hfu := { s.hfu with recState := .opened, entry := some contained }
           stu := { s.stu with counter := .frozen, frameTimer := none }, vnp := { s.vnp with port := .busOff } }

def withCheck (i : CheckIdx) (c : Check) (s : State) : State :=
  { s with cke := { s.cke with checks := vset s.cke.checks i c } }

def withLent (m : MeasIdx) (l : Lent) (s : State) : State :=
  { s with rcu := { s.rcu with meas := vset s.rcu.meas m (some l) } }

def withSlot (k : FrameKind) (x : TxSlot) (s : State) : State := { s with rbc := s.rbc.setSlot k x }

def withVn (i : TxSlotIdx) (v : VnSlot) (s : State) : State :=
  { s with vnp := { s.vnp with slots := vset s.vnp.slots i v } }

def withChannel (i : ChannelIdx) (c : Channel) (s : State) : State :=
  { s with stu := { s.stu with channels := vset s.stu.channels i c } }

def withPeer (i : StationIdx) (s : State) : State :=
  { s with rbc := { s.rbc with
      peers := vset s.rbc.peers i { present := true, beacon := none, silence := some 3000000 } } }

def withEvents (n : Nat) (s : State) : State :=
  { s with cml := { s.cml with events := List.replicate n { event := .peerJoined 3, frame := 0 } } }

/-! ## WellFormed refuses what no row carries -/

theorem test_wf_length_byte : WellFormed (.clamp { len := 256, bytes := [] }) = false := by decide
theorem test_wf_owner_tables :
    WellFormed (.writeRecords (params [3, 0])) = false ∧ WellFormed (.writeChecks (params [2, 0])) = false ∧
    WellFormed (.writeTxSlots (params [1, 0])) = false ∧ WellFormed (.writeRxFilters (params [4, 0])) = false ∧
    WellFormed (.writeMessages (params [3, 0])) = false := by decide
theorem test_wf_pattern_groups_begin_off_the_lines :
    WellFormed (.writePatternGroups (params [5, 4])) = false ∧ WellFormed (.writePatternGroups (params [5, 20])) = true := by
  decide
theorem test_wf_line_conditioning_begins_at_a_line :
    WellFormed (.writeLineConditioning (params [5, 3])) = false ∧
    WellFormed (.writeLineConditioning (params [5, 20])) = false ∧
    WellFormed (.writeLineConditioning (params [5, 19])) = true := by decide
theorem test_wf_known_code : WellFormed (.unknownCommand 25 (params [])) = false := by decide
theorem test_wf_taken_transaction :
    WellFormed (.transactionDiscarded [0x5A, 6, 0]) = false ∧ WellFormed (.transactionDiscarded [0xA5]) = false := by decide
theorem test_wf_payload_length : WellFormed (.haltClearAccepted 2 []) = false := by decide
theorem test_wf_payload_out_of_code :
    WellFormed (.slotClaimAccepted 2 (be16 2001)) = false ∧ WellFormed (.slotClaimAccepted 2 (be16 2000)) = true ∧
    WellFormed (.promptAnswerAccepted 2 [12, 0, 1]) = false := by decide
theorem test_wf_vehicle_frame :
    WellFormed (.vnFrameReceived 0
      { extended := false, identifier := 2048, remote := false, lengthCode := 0, data := [] }) = false ∧
    WellFormed (.vnFrameReceived 0
      { extended := false, identifier := 5, remote := false, lengthCode := 2, data := [1] }) = false := by decide
theorem test_wf_no_line : WellFormed (.lineEdgeAccepted 0 0) = false := by decide

/-! ## Worked examples of the manual -/

/-- 4.2, worked realizations: a channel's period, high time, realized frequency and duty. -/
def realized (m : ChannelMode) (f d : Nat) : Option (Nat × Nat) × Nat × Nat × Bool :=
  let c := { Channel.idle with mode := m, freq := f, workFreq := f, duty := d }.realize
  (c.figures, c.realFreq, c.realDuty, c.clamped)

theorem test_realization_pwm : realized .pwm 33333 2500 = (some (30000, 7500), 33333, 2500, false) := by decide
theorem test_realization_freq : realized .freq 1234567 0 = (some (810, 405), 1234568, 5000, false) := by decide
theorem test_realization_short_period : realized .freq 2500000 0 = (some (500, 250), 2000000, 5000, true) := by decide
theorem test_realization_long_period :
    realized .freq 5 0 = (some (100000000, 50000000), 10, 5000, true) := by decide
theorem test_realization_rounds : realized .freq 150 0 = (some (6666667, 3333334), 150, 5000, false) := by decide
theorem test_realization_least_high : realized .pwm 2000000 1 = (some (500, 1), 2000000, 20, true) := by decide

/-- 5.4, worked encodings. -/
def boundField (m d : Nat) (width start : Nat) (big signed : Bool) : BoundField :=
  { source := 6, start := start, width := width, big := big, signed := signed, m := m, d := d, o := 0 }

theorem test_encoding_big :
    let f := boundField 1 5 16 23 true false
    encodeBound f 10000 = (2000, false) ∧ payloadBytes (placeBound 0 f 2000) 4 = [0, 0, 7, 208] := by decide
theorem test_encoding_clamped :
    let f := boundField 1 5 16 23 true false
    encodeBound f 400000 = (65535, true) ∧ payloadBytes (placeBound 0 f 65535) 4 = [0, 0, 255, 255] := by decide
theorem test_encoding_signed_little :
    let f := boundField 1 2 12 4 false true
    encodeBound f (-1235) = (-618, false) ∧ payloadBytes (placeBound 0 f (-618)) 2 = [96, 217] := by decide

/-- 6.5.1, the chime line. -/
theorem test_freq_duty_chime :
    let w : MeasWindow :=
      { openTick := 20000000, span := 5000000, openLevel := false, edgeSeen := true, first := some 20001200
        last := 24996500, n := 999, h := 2497000, runHigh := 2497000, runTick := 24996500, count := 0, reached := false
        overrange := false }
    freqDutyResult w = (199988, 4999, Flags.none) := by decide

/-- 7.5, worked samples: the speedometer's TRACK check and the chime's ABSOLUTE check. -/
def speedCheck : CheckDef :=
  { CheckDef.blank with kind := .vnField, m := 10, d := 1, o := 0, track := true, trackCh := 6, limLo := 0, pctLo := 0,
                        limHi := 400, pctHi := 1000, guard := 100, samples := 3 }

theorem test_samples_speed :
    judgeSample speedCheck (some 10000) 1046 Flags.none = { verdict := .pass, eng := some 10460, flags := Flags.none } ∧
    judgeSample speedCheck (some 10000) 1005 Flags.none =
      { verdict := .marginal, eng := some 10050, flags := Flags.none } := by decide
theorem test_samples_chime :
    judgeSample { CheckDef.blank with kind := .freq, m := 1, d := 100, o := 0, limLo := 1900, limHi := 2100, guard := 20 }
      none 199988 Flags.none = { verdict := .pass, eng := some 2000, flags := Flags.none } := by decide
theorem test_samples_guard_clamped :
    judgeSample { CheckDef.blank with kind := .freq, m := 1, d := 1, o := 0, track := true, limLo := 5, limHi := 5, guard := 8 }
      (some 100) 101 Flags.none =
        { verdict := .marginal, eng := some 101, flags := { Flags.none with guardClamped := true } } := by decide +kernel

/-- 7.6, aggregation at the margins. -/
def sampled (v : Verdict) (eng : Option Int) : Sample := { verdict := v, eng := eng, flags := Flags.none }

theorem test_aggregation :
    aggregateVerdict 4 [sampled .pass (some 510), sampled .invalid none, sampled .pass (some 512), sampled .invalid none] = .pass ∧
    aggregateVerdict 3 [sampled .pass (some 80), sampled .invalid none, sampled .invalid none] = .invalid ∧
    aggregateVerdict 5 [sampled .pass (some 1), sampled .pass (some 1), sampled .fail (some 9), sampled .pass (some 1),
      sampled .pass (some 1)] = .fail ∧
    aggregateVerdict 1 [sampled .invalid none] = .invalid := by decide
theorem test_aggregation_half_away :
    let r := resultPart 2 [sampled .marginal (some (-3)), sampled .marginal (some (-4))] .marginal none Flags.none 0 0
    r.value = some (-4) ∧ r.minimum = some (-4) ∧ r.maximum = some (-3) := by decide

/-- 10.5, the overflowing queue: the marker takes the 32nd entry, and a later posting is counted in it. -/
theorem test_event_queue_overflow :
    (post (.peerLost 3) (withEvents 31 station)).cml.events.getLast? =
      some { event := .eventsLost 1 (Event.kind (.peerLost 3)), frame := 0 } ∧
    (post (.peerLost 3) (post (.peerLost 3) (withEvents 31 station))).cml.events.getLast? =
      some { event := .eventsLost 2 (Event.kind (.peerLost 3)), frame := 0 } := by decide +kernel

/-! ## One command each -/

/-- 2.9's example, line by line: CLAMP from SEATED, the slipping seat, the clamp's end. -/
theorem test_clamp_starts : did (.clamp (params [])) seatedStation (fun t =>
    decide (t.ncu.nest = .clamping) && decide (t.ncu.motion = some { dir := .closing, left := 30000000 })) = true := by
  decide +kernel
theorem test_second_seat_is_seated : did (.seatDebouncedChange .seatB true)
    { station with ncu := { station.ncu with seatA := .at true } } (fun t => decide (t.ncu.nest = .seated)) = true := by
  decide +kernel
theorem test_slipping_seat_stops_the_motion :
    let s := inNest .clamping seatedStation
    did (.seatDebouncedChange .seatB false)
      { s with ncu := { s.ncu with motion := some { dir := .closing, left := 5 } } } (fun t =>
        decide (t.ncu.nest = .empty) && decide (t.ncu.motion = none) && decide (t.hfu.mode = .normal)) = true := by
  decide +kernel
theorem test_power_on_waits : did (.powerOn (params [1])) clampedStation (fun t =>
    decide (t.ncu.nest = .powerWait) && decide (t.dsu.ownClaim = .waiting)) = true := by decide +kernel
theorem test_power_on_unknown_source : did (.powerOn (params [3])) clampedStation (fun t =>
    decide (t.cml.response.map (·.status) = some .range) && decide (t.ncu.nest = .clamped)) = true := by decide +kernel
theorem test_power_off_opens : did (.powerOff (params [])) poweredStation (fun t =>
    decide (t.ncu.nest = .clamped) && !anyClosed t.dsu && decide (t.vnp.port = .off)) = true := by decide +kernel
theorem test_severe_fault_opens : did (.seatDebouncedChange .seatA false) poweredStation (fun t =>
    decide (t.hfu.mode = .fault) && !anyClosed t.dsu && decide (t.ncu.nest = .powered)) = true := by decide +kernel
theorem test_halt_input_halts : did (.haltInputChange .haltIn true) poweredStation (fun t =>
    decide (t.hfu.mode = .halted) && !anyClosed t.dsu && decide (t.rbc.slot .halt ≠ .empty)) = true := by decide +kernel
theorem test_resume_restarts_the_port : did (.faultResume (params [])) faultStation (fun t =>
    decide (t.hfu.mode = .normal) && decide (t.vnp.port = .active) && decide (t.stu.counter = .running) &&
      decide (t.stu.frame = 41)) = true := by decide +kernel
theorem test_unknown_command_is_answered : did (.unknownCommand 26 (params [])) station (fun t =>
    decide (t.cml.response = some { status := .unknownCommand, code := 26, seq := 1, data := [] })) = true := by decide +kernel
/-- A write of BOARD with 249 bytes behind the header. -/
def overlong : Params := params ([9, 0] ++ List.replicate 249 0)

theorem test_witness_overlong_write :
    (linkRow (.writeRecords overlong)).map (fun x => (x.1.code, x.2)) = some (5, overlong) ∧ overlong.len = 251 ∧
    (∀ r, r.code = 5 → lengthOpen r overlong) ∧
    did (.writeRecords overlong) station (fun t => decide (t.cml.response.map (·.status) = some .lengthError)) = true := by
  refine ⟨by decide +kernel, by decide +kernel, fun r h => ⟨h, by decide +kernel, by decide +kernel, by decide +kernel⟩, by decide +kernel⟩
theorem test_response_read_empty : did (.responseRead 6) station (fun t =>
    decide (t.cml.miso = [0, 0, 0, 0, 0, 0])) = true := by decide +kernel
theorem test_short_length_is_refused : did (.powerOn { len := 1, bytes := [] }) station (fun t =>
    decide (t.cml.response.map (·.status) = some .lengthError)) = true := by decide +kernel
theorem test_frame_boundary_counts : did .frameBoundary poweredStation (fun t => decide (t.stu.frame = 42)) = true := by
  decide +kernel
theorem test_held_update_applies_now : did (.setDiscretes (params [0, 1, 0, 1, 0]))
    { station with stu := { station.stu with hold := true } } (fun t => decide (t.stu.discretes = 1)) = true := by decide +kernel
theorem test_trip_delay : did (.currentSample 5001)
    { poweredStation with dsu := { poweredStation.dsu with overCount := 2 } } (fun t =>
      decide (t.hfu.mode = .fault)) = true := by decide +kernel
theorem test_sample_at_the_limit : did (.currentSample 5000)
    { poweredStation with dsu := { poweredStation.dsu with overCount := 2 } } (fun t =>
      decide (t.hfu.mode = .normal) && decide (t.dsu.overCount = 0)) = true := by decide +kernel
theorem test_reset_keeps_the_waiting : did (.powerOnReset Pins.quiet) (station.withPending [.busIdle]) (fun t =>
    decide (t = State.reset.withPending [.busIdle])) = true := by decide +kernel
theorem test_idle_step_ticks : (match nextOf (step State.reset) with
    | some t => decide (t.rcu.timebase = 1)
    | none => false) = true := by decide +kernel
theorem test_table_gives_no_bits : decodeTableWord 8 6 = none ∧ State.reset.withFetchWord 8 6 = State.reset := by decide +kernel

/-- The codes of 10.3 and 10.4 and the kinds of 11.2, byte by byte. -/
theorem test_transactions_give_their_commands :
    transactionCommand [0x5A, 1, 0] = .configure (params []) ∧ transactionCommand [0x5A, 6, 0] = .clamp (params []) ∧
    transactionCommand [0x5A, 10, 1, 2] = .switchSource (params [2]) ∧
    transactionCommand [0x5A, 14, 0] = .releaseStaging (params []) ∧
    transactionCommand [0x5A, 25, 0] = .faultAbandon (params []) ∧
    transactionCommand [0x5A, 26, 0] = .unknownCommand 26 (params []) ∧
    transactionCommand [0x5A, 5, 2, 5, 4] = .writeLineConditioning (params [5, 4]) ∧
    transactionCommand [0x5A, 5, 2, 5, 20] = .writePatternGroups (params [5, 20]) ∧
    transactionCommand [0x5A, 5, 2, 6, 0] = .writeRecords (params [6, 0]) ∧
    transactionCommand [0x5A, 5, 2, 1] = .writeChecks { len := 2, bytes := [1] } ∧
    transactionCommand [0xA5, 0, 0] = .responseRead 2 ∧ transactionCommand [0x5A, 6] = .transactionDiscarded [0x5A, 6] ∧
    transactionCommand [0x3C, 6, 0] = .transactionDiscarded [0x3C, 6, 0] ∧
    transactionCommand [] = .transactionDiscarded [] := by decide +kernel
theorem test_witness_transactions :
    (linkRow (.writeRecords (params [6, 0]))).map (fun x => (x.1.code, x.2)) = some (5, params [6, 0]) ∧
    WellFormed (.writeRecords (params [6, 0])) = true ∧ WellFormed (.writeLineConditioning (params [5, 19])) = true ∧
    WellFormed (.unknownCommand 0 { len := 255, bytes := [] }) = true ∧
    WellFormed (.transactionDiscarded [0x5A, 6]) = true := by decide +kernel

/-! ## Witnesses: for each statement with hypotheses, a state and operands that meet them -/

/-- A station that holds something of every kind: a full event queue, two claims, a test record, a lent channel, a panel queue, a closed switch. -/
def openFreq : Check :=
  { defn := { CheckDef.blank with kind := .freq, channel := 2 }, state := .opened
    run := some { armSeq := 1, start := some { frame := 0, tick := 0 }, settle := none, deadline := none, waiting := false
                  samples := [], window := some { openTick := 0, left := some 10000, ref := none, raw := nothingYet
                                                  spill := nothingYet, spillApply := false } } }

def lentTo (i : CheckIdx) (counts : Bool) (theta : Option Nat) (first : Option Stamp) (level : Bool) : Lent :=
  { holder := i, line := 7, rise := true, filter := 0, counts := counts, theta := theta, level := level, run := 0, late := []
    window := some { openTick := 0, span := 10000, openLevel := level, edgeSeen := false, first := first, last := 0, n := 0, h := 0
                     runHigh := 0, runTick := 0, count := 4, reached := false, overrange := false } }

def queued (i : StationIdx) (kind : PromptKind) (urgent : Bool) (tag : Tag) (notice : Timer) : QueueEntry :=
  { station := i, kind := kind, urgent := urgent, message := 7, tag := tag, duration := if kind = .notice then 3 else 0
    notice := notice }

def claim (i : StationIdx) : ClaimEntry := { station := i, tInrush := 200, fromBeacon := false, expiry := some 2500000 }

def entryOf (i : CheckIdx) : RecordEntry :=
  { check := i, kind := .level, result := resultPart 1 [sampled .pass (some 1)] .pass none Flags.none 0 0 }

def laden : State :=
  let s := withCheck 9 { defn := { CheckDef.blank with kind := .level }, state := .done, run := none }
    (withLent 2 (lentTo 3 false none none false) (withCheck 3 openFreq poweredStation))
  { s with cml := { s.cml with events := List.replicate 31 { event := .peerJoined 3, frame := 0 } ++
                                 [{ event := .eventsLost 1 19, frame := 0 }] }
           dsu := { s.dsu with claims := [claim 1, claim 11], listed := true, ownClaim := .granted }
           cke := { s.cke with record := [entryOf 9] }
           prs := { s.prs with queue := [queued 2 .judge true 0 none, queued 0 .action false 15 none] } }

theorem test_laden_meets_the_laws :
    eventsOk laden.cml.events = true ∧ claimsOk laden.dsu.claims = true ∧ recordInv laden.cke = true ∧
    lendLaw laden = true ∧ queueOk laden.prs.queue = true ∧ supplyInv laden = true ∧ haltInv laden = true := by
  decide +kernel
theorem test_laden_steps :
    (∃ t, step (laden.withPending [.powerOff (params [])]) = .next t) ∧ (∃ t, step laden = .next t) :=
  ⟨next_of_some (by decide +kernel), next_of_some (by decide +kernel)⟩
theorem test_halted_meets_the_law :
    haltInv haltedStation = true ∧ haltFlag haltedStation.hfu = true ∧
    haltInv { haltedStation with hfu := { haltedStation.hfu with mode := .lockout } } = true ∧
    supplyInv haltedStation = true := by
  decide +kernel

theorem test_witness_idle_steps :
    station.pending = [] ∧ nextDue station = none ∧
    nextDue { station with rbc := { station.rbc with beaconTimer := some 0 } } = some .beaconTimerExpiry := by decide +kernel
theorem test_witness_lockout :
    configured (inMode .lockout station) = true ∧ (inMode .lockout station).hfu.mode = .lockout ∧
    isReset (.clamp (params [])) = false ∧ poweredStation.dsu.main.closed = true ∧ poweredStation.dsu.aux.closed = false ∧
    station.dsu.main.closed = false ∧ (∃ t, exec (.clamp (params [])) (inMode .lockout station) = .next t) :=
  ⟨by decide, by decide, by decide, by decide, by decide, by decide, next_of_some (by decide +kernel)⟩
theorem test_witness_reset : State.reset = State.reset ∧ (∃ t, exec (.powerOnReset Pins.quiet) laden = .next t) :=
  ⟨rfl, next_of_some (by decide +kernel)⟩

/-! ### The command link -/

theorem test_witness_link_tests :
    linkRow (.clamp (params [])) = some (plainRow 6 0 (params [])) ∧
    firstRefusal (plainRow 6 0 (params [])).1 (params []) station = none ∧
    firstRefusal (plainRow 6 0 (params [])).1 (params [0]) station = some .lengthError ∧
    firstRefusal (plainRow 6 0 (params [])).1 (params []) State.reset = some .notConfigured ∧
    firstRefusal (plainRow 6 0 (params [])).1 (params []) (inMode .lockout station) = some .wrongState ∧
    firstRefusal { code := 1, allowed := fun k => decide (k = 19), early := true, once := true, modes := allModes }
      (params (List.replicate 19 0)) station = some .alreadyConfigured := by
  refine ⟨rfl, ?_⟩
  decide +kernel
theorem test_witness_reads :
    Table.ofCode (11 : Byte).toNat = some .channels ∧ (8 : Byte).toNat < Table.channels.capacity ∧
    1 ≤ (8 : Byte).toNat ∧ (8 : Byte).toNat ≤ 8 ∧ Table.ofCode (12 : Byte).toNat = none ∧
    Table.channels.capacity ≤ (9 : Byte).toNat ∧ 8 < (9 : Byte).toNat ∧ station.cml.cursor = none ∧
    { station with cml := { station.cml with cursor := some (.results, 48) } }.cml.cursor = some (.results, 48) := by
  decide +kernel
/-- FAULT, with a cause that has no argument and a second cause that has one. -/
def secondFault : State :=
  { faultStation with hfu := { faultStation.hfu with
      entry := some { contained with cause := .seatLost, second := some (.vnBusOff 256 3, 9) } } }

theorem test_fault_record_marks_an_absent_argument :
    (tableRecord secondFault .faultRecord 0).take 10 = [1, 3, 0, 0, 0, 0, 0, 0, 0, 0] ∧
    ((tableRecord secondFault .faultRecord 0).drop 30).take 13 = [1, 8, 1, 0, 1, 3, 0, 0, 0, 9, 0, 0, 0] ∧
    (tableRecord faultStation .faultRecord 0).take 10 = [1, 8, 1, 1, 0, 1, 0, 0, 0, 0] ∧
    (tableRecord station .faultRecord 0) = List.replicate 45 0 := by decide +kernel
theorem test_status_record :
    (statusAsked station).take 8 = [1, 1, 0, 1, 1, 2, 200, 0] ∧ (statusRecord station).take 8 = [1, 1, 0, 1, 1, 2, 200, 0] ∧
    (statusAsked laden).length = (statusAsked station).length ∧ statusAsked laden = statusRecord laden := by decide +kernel
theorem test_discarded_write_shifts_the_status :
    did (.transactionDiscarded [90, 6, 1]) laden (fun t => decide (t.cml.miso = [32])) = true ∧
    did (.transactionDiscarded [91, 6, 1]) laden (fun t => decide (t.cml.miso = laden.cml.miso)) = true := by decide +kernel
theorem test_witness_queue :
    (∀ r ∈ (withEvents 30 station).cml.events, r.isLost = false) ∧ (withEvents 30 station).cml.events.length ≤ 30 ∧
    (∀ r ∈ (withEvents 31 station).cml.events, r.isLost = false) ∧ (withEvents 31 station).cml.events.length = 31 ∧
    eventsOk (withEvents 31 station).cml.events = true ∧
    laden.cml.events = List.replicate 31 { event := .peerJoined 3, frame := 0 } ++
      [{ event := .eventsLost 1 19, frame := 0 }] ∧
    (∀ r ∈ List.replicate 31 ({ event := .peerJoined 3, frame := 0 } : EventRecord), r.isLost = false) := by
  decide +kernel

/-- A standard receive filter as it is written, and one whose identifier is too wide. -/
def filterRecord : List Byte := [0, 0xFF, 7, 0, 0, 0xFF, 7, 0, 0]
def badFilterRecord : List Byte := [0, 0, 8, 0, 0, 0, 0, 0, 0]

theorem test_witness_record_writes :
    configured station = true ∧ station.hfu.mode ≠ .lockout ∧
    (Table.ofCode ((([12, 0] : List Byte).getD 0 0).toNat)).bind Table.recordSize = none ∧
    (Table.ofCode ((([6, 0] : List Byte).getD 0 0).toNat)).bind Table.recordSize = none ∧
    filterRecord.length = 9 ∧ (rxFilterOf filterRecord).isSome = true ∧
    badFilterRecord.length = 9 ∧ rxFilterOf badFilterRecord = none ∧
    (40 :: List.replicate 40 (126 : Byte)).length = 41 ∧ messageOf (40 :: List.replicate 40 126) = some (List.replicate 40 126) := by
  decide +kernel
theorem test_witness_partial_write :
    (∀ r ∈ [filterRecord], r.length = 9 ∧ (rxFilterOf r).isSome = true) ∧ ([] : List Byte).length % 9 = 0 ∧
    [filterRecord].length + 1 + ([] : List Byte).length / 9 ≤ 8 ∧ (14 : Byte).toNat + [filterRecord].length < 16 := by decide

/-- An enabled slot of period 10 ms as it is written. -/
def slotRecord : List Byte :=
  [1, 0xFF, 7, 0, 0, 8, 1, 2, 3, 4, 5, 6, 7, 8, 10, 0, 10, 0] ++ List.replicate 13 0

/-- A slot of a length with a BIG bound field in its first four bytes and a rolling counter at a start bit, as it is written. -/
def fieldRecord (len counterAt : Byte) : List Byte :=
  [0x1D, 5, 0, 0, 0, len, 1, 2, 3, 4, 5, 6, 7, 8, 10, 0, 3, 0, 7, 7, 32, 1, 0, 5, 0, 0, 0, 0, 0x80, counterAt, 8]

theorem test_witness_slot_write :
    slotRecord.length = 31 ∧ slotAllowed slotRecord ∧ ¬slotAllowed (slotRecord.set 16 11) ∧
    (fieldRecord 5 32).length = 31 ∧ slotAllowed (fieldRecord 5 32) ∧ ¬slotAllowed (fieldRecord 5 31) ∧
    ¬slotAllowed (fieldRecord 4 32) ∧ ¬slotAllowed ((fieldRecord 5 32).set 18 8) := by
  unfold slotAllowed slotInRange inField withinBytes
  refine ⟨?_, ?_, ?_, ?_, ?_, ?_, ?_, ?_⟩ <;> decide +kernel
theorem test_slot_write_answers :
    let write (rec : List Byte) (answer : List Byte) (held : VnSlot → Bool) : Bool :=
      did (.writeTxSlots (params (2 :: 23 :: rec))) station (fun t =>
        decide (t.cml.response.map (·.data) = some answer) && held t.vnp.slots[(23 : TxSlotIdx)])
    write (fieldRecord 5 32) [1] (fun v => decide (v.counter = some (32, 8)) && decide (v.bound.map (·.o) = some (-2147483648)) &&
      decide (v.payload = 0x0807060504030201)) = true ∧
    write (fieldRecord 5 31) [0, 23, 4] (fun v => decide (v = VnSlot.blank)) = true := by decide +kernel
theorem test_witness_pattern_writes :
    (List.replicate 17 (1 : Byte)).length = 17 ∧ groupAllowed (List.replicate 17 1) ∧
    groupAllowed (List.replicate 16 5 ++ [0]) ∧ ¬groupAllowed (List.replicate 15 0 ++ [6, 0]) ∧
    ¬groupAllowed (List.replicate 16 0 ++ [2]) ∧
    (∀ m : MeasIdx, (station.rcu.meas[m]).map (·.line) ≠ some (15 : LineIdx)) ∧
    (laden.rcu.meas[(2 : MeasIdx)]).map (·.line) = some (7 : LineIdx) ∧
    (3 : Byte).toNat = (3 : GroupIdx).val ∧ 4 ≤ (4 : Byte).toNat ∧ configured laden = true := by
  unfold groupAllowed; decide +kernel

/-- A LEVEL check of `k` samples and divisor `d` as it is written. -/
def checkRecord (k d : Byte) : List Byte :=
  [4] ++ List.replicate 18 0 ++ [0, 0, 1, 0, k, 0, 0, 1, 0, d, 0] ++ List.replicate 21 0

theorem test_witness_check_write :
    (checkRecord 8 1).length = 51 ∧ (laden.cke.checks[(3 : CheckIdx)]).state.isArmed = true ∧
    (laden.cke.checks[(9 : CheckIdx)]).state.isArmed = false ∧ kindNames[numAt (checkRecord 8 1) 0 1]? = some .level ∧
    kindNames[numAt (9 :: List.replicate 50 0) 0 1]? = none ∧
    checkStored (checkAsked (checkRecord 8 1) .level) = checkAsked (checkRecord 8 1) .level ∧
    checkStored (checkAsked (checkRecord 9 1) .level) ≠ checkAsked (checkRecord 9 1) .level := by decide +kernel
theorem test_witness_check_allowed :
    checkAllowed 9 (checkAsked (checkRecord 8 1) .level) ∧ checkAllowed 9 (checkAsked (checkRecord 9 1) .level) ∧
    ¬checkAllowed 9 (checkAsked (checkRecord 8 0) .level) := by
  refine ⟨⟨?_, ?_, ?_, ?_, ?_, ?_, ?_, ?_, ?_, ?_, ?_⟩, ⟨?_, ?_, ?_, ?_, ?_, ?_, ?_, ?_, ?_, ?_, ?_⟩,
    fun h => (h.2.2.2.2.2.2.2.2.1 (by decide +kernel)).2.1 (by decide +kernel)⟩ <;> decide +kernel

/-- The table of R114 at and beside each of its bounds, with L = -4 and H = 3 (H - L = 7). -/
def checkOf (w k s dl : Nat) (g : Int) : CheckDef :=
  { CheckDef.blank with kind := .current, window := w, samples := k, settle := s, deadline := dl, limLo := -4, limHi := 3, guard := g }

theorem test_check_values_are_adjusted :
    checkStored (checkOf 0 0 5001 60001 4) = checkOf 1 1 5000 60000 3 ∧ (checkOf 0 0 5001 60001 4).adjust = checkOf 1 1 5000 60000 3 ∧
    checkStored (checkOf 10001 9 5000 60000 3) = checkOf 10000 8 5000 60000 3 ∧
    checkStored (checkOf 10000 8 0 0 0) = checkOf 10000 8 0 0 0 ∧
    (checkStored { checkOf 0 1 0 0 9 with kind := .operator }).window = 0 := by decide +kernel
theorem test_check_write_answers :
    let s := withCheck 9 { defn := CheckDef.blank, state := .idle, run := none } station
    let write (rec : List Byte) : Instr := .writeChecks (params ([1, 9] ++ rec))
    let answers (st : Status) (data : List Byte) (t : State) : Bool :=
      decide (t.cml.response.map (fun x => (x.status, x.data)) = some (st, data))
    did (write (checkRecord 8 1)) s (answers .ok [1]) = true ∧
    did (write (checkRecord 9 1)) s (answers .okAdjusted [1, 1, 9, 0, 0, 0, 0, 0, 0, 0]) = true ∧
    did (write (checkRecord 8 0)) s (answers .partialWrite [0, 9, 4]) = true := by decide +kernel
theorem test_witness_forms :
    payloadInCode (.slotClaim 20) = true ∧ payloadInCode (.slotClaim 2000) = true ∧
    payloadInCode (.promptReq .notice true 255 15 30) = true ∧
    payloadInCode (.result 255 .fail { pass := 48, marginal := 0, fail := 0, invalid := 0, aborted := 0 }) = true ∧
    payloadInCode (.beacon (ownBeacon station)) = true ∧
    filterBound .standard = 2048 ∧
    checkDefFits { CheckDef.blank with o := 2147483647, theta := 16777215, condArg := 4294967295 } = true ∧
    configInRange asked = true ∧ (∀ b ∈ [32, (126 : Byte)], 32 ≤ b.toNat ∧ b.toNat ≤ 126) ∧
    slotInRange (slotAsked (fieldRecord 5 32)) ∧
    (∀ f ∈ (slotAsked (fieldRecord 5 32)).bound, f.m < 65536 ∧ f.d < 65536 ∧ fitsS32 f.o = true) ∧
    (Line.afterReset true).filter < 256 ∧
    updateInRange 5 { ChannelUpdate.none with link := some true, width := some 100000000, count := some 65535, duty := some 10000 } ∧
    updateInRange 7 { ChannelUpdate.none with mode := some .value, value := some (-2147483648), slew := some 4294967295 } := by
  unfold slotInRange inField withinBytes updateInRange
  repeat' apply And.intro
  all_goals decide +kernel

/-! ### The nest and the supply -/

def motionIn (d : Direction) (n : NestState) : State :=
  let s := inNest n (placed station)
  { s with ncu := { s.ncu with motion := some { dir := d, left := 30000000 } } }

theorem test_witness_clamp_commands :
    configured seatedStation = true ∧ configured (inMode .lockout clampedStation) = true := by decide +kernel
theorem test_witness_motions : ready (motionIn .closing .clamping) ∧ ready (motionIn .opening .unclamping) ∧
    (motionIn .closing .clamping).ncu.motion = some { dir := .closing, left := 30000000 } ∧
    (motionIn .closing .clamping).ncu.clampClosed.level = false ∧ seatPair (motionIn .closing .clamping).ncu = true ∧
    (motionIn .opening .unclamping).ncu.motion = some { dir := .opening, left := 30000000 } ∧
    (motionIn .opening .unclamping).ncu.clampOpen.level = false := by
  unfold ready; decide +kernel
/-- HALTED with the clamp closed and one seat asserted; CLAMPED. -/
def haltedClamped : State := inNest .clamped (closed haltedStation)

theorem test_witness_sensors : ready seatedStation ∧ ready station ∧ seatedStation.ncu.nest = .seated ∧
    station.ncu.nest = .empty ∧ seatedStation.ncu.seatA.level ≠ false ∧ station.ncu.seatB.level ≠ true ∧
    seatedStation.ncu.clampClosed.level ≠ true ∧ seatedStation.ncu.clampOpen.level ≠ true := by
  unfold ready; decide +kernel
theorem test_witness_sensors_halted :
    configured haltedClamped = true ∧ haltedClamped.hfu.mode = .halted ∧ haltedClamped.ncu.nest = .clamped ∧
    haltedClamped.ncu.seatA.level ≠ true ∧ haltedClamped.ncu.seatB.level ≠ true ∧ haltedClamped.ncu.clampOpen.level ≠ true ∧
    (placed haltedClamped).ncu.clampClosed.level = true ∧ configured haltedStation = true ∧
    haltedStation.ncu.nest = .empty ∧ haltedStation.ncu.clampClosed.level ≠ true ∧
    { haltedClamped.ncu with seatA := .at true }.seatA.level ≠ false ∧ haltedClamped.ncu.seatB.level = false := by
  decide +kernel
theorem test_witness_losses : ready poweredStation ∧ ready clampedStation ∧ ready (inNest .powerWait clampedStation) ∧
    poweredStation.ncu.nest = .powered ∧ seatPair poweredStation.ncu = true ∧
    poweredStation.ncu.clampClosed.level = true ∧ seatPair clampedStation.ncu = true := by
  unfold ready; decide +kernel
theorem test_witness_losses_outside_normal :
    configured haltedClamped = true ∧ haltedClamped.hfu.mode = .halted ∧ haltedClamped.ncu.nest = .clamped ∧
    seatPair (placed haltedClamped).ncu = true ∧ haltedClamped.ncu.clampClosed.level = true ∧
    haltedClamped.cml.events = [] ∧ configured faultStation = true ∧ faultStation.hfu.mode = .fault ∧
    faultStation.hfu.entry = some contained ∧ faultStation.ncu.nest = .powered ∧ faultStation.ncu.motion = none ∧
    seatPair faultStation.ncu = true ∧ faultStation.ncu.clampClosed.level = true :=
  ⟨rfl, rfl, rfl, by decide +kernel, rfl, rfl, rfl, rfl, rfl, rfl, rfl, by decide +kernel, rfl⟩
theorem test_loss_while_halted : did (.clampClosedDebouncedChange false) (placed haltedClamped) (fun t =>
    decide (t.hfu.mode = .fault) && decide (t.hfu.entry.map (·.nest) = some .clamped) && decide (t.ncu.nest = .clamped) &&
      decide (t.cml.events.map (·.event) = [.faultEntered .clampLost false .clamped]) &&
      did (.seatDebouncedChange .seatA false) t (fun u => decide (u.hfu.mode = .lockout)) &&
      did (.faultAbandon (params [])) t (fun u => decide (u.ncu.nest = .seated) && decide (u.hfu.mode = .halted))) = true := by
  decide +kernel
theorem test_witness_raw_inputs :
    inputRead station (.halt .estop) = true ∧ inputRead State.reset (.halt .estop) = false ∧
    inputRead station (.line 15) = true ∧ RawInput.seat .seatA ≠ RawInput.seat .seatB := by decide +kernel

/-- POWER_WAIT for MAIN, with the claim just made. -/
def waitingStation : State :=
  let s := inNest .powerWait clampedStation
  { s with dsu := { s.dsu with requested := some .main, ownClaim := .waiting, powerWait := some 100000000 } }

theorem test_witness_power_commands :
    ready waitingStation ∧ waitingStation.ncu.nest = .powerWait ∧ waitingStation.dsu.ownClaim = .waiting ∧
    waitingStation.dsu.requested = some .main ∧ configured clampedStation = true ∧
    ¬(clampedStation.hfu.mode = .normal ∧ (clampedStation.ncu.nest = .powerWait ∨ clampedStation.ncu.nest = .powered)) ∧
    sourceGood clampedStation .aux = true ∧ station.rbc.tx ≠ .offClash := by
  unfold ready; decide +kernel

/-- A switch-over from MAIN to AUX. -/
def switching (confirmed : Bool) : State :=
  { poweredStation with dsu := { poweredStation.dsu with
      aux := { Switch.resting with closed := true, window := some 50000 }
      switchOver := some { target := .aux, old := .main, overlap := some 20000, confirm := some 50000
                           confirmed := confirmed } } }

theorem test_witness_switch_over : ready (switching true) ∧ ready (switching false) ∧ Rail.main = otherRail .aux ∧
    ((switching true).dsu.sw .aux).closed = true ∧ ((switching true).dsu.sw .main).closed = true ∧
    (switching true).dsu.switchOver = some { target := .aux, old := .main, overlap := some 20000
                                             confirm := some 50000, confirmed := true } ∧
    (poweredStation.dsu.sw .aux).closed = false := by
  unfold ready; decide +kernel

/-- The switch-over with one of its timers over. -/
def switchingAfter (overlap confirm : Timer) : State :=
  { switching false with dsu := { (switching false).dsu with
      switchOver := some { target := .aux, old := .main, overlap := overlap, confirm := confirm, confirmed := false } } }

theorem test_witness_switch_over_ends :
    ready (switchingAfter none (some 30000)) ∧ ready (switchingAfter none none) ∧
    feedback (switchingAfter none (some 30000)) .aux = false ∧ feedback (switching false) .aux = false ∧
    feedback (switchingAfter none none) .aux = false ∧ sourceGood (switching false) .aux = true ∧
    Cause.severe (.vnBusOff 256 0) = false ∧ (switching false).ncu.nest = .powered ∧
    (switching false).ncu.motion = none ∧ (switching false).cml.events = [] ∧ ownIdx (switching false) ≠ some 11 ∧
    haltFlag (switching false).hfu = false := by
  unfold ready; decide +kernel
theorem test_late_feedback_starts_after_the_window : did .confirmationTimerExpiry (switching false) (fun t =>
    decide ((t.dsu.sw .aux) = { closed := false, window := some 50000, mismatch := none, loss := none })) = true := by
  decide +kernel

/-- The own SLOT_CLAIM of T_INRUSH `t` on the line. -/
def claiming (t : Nat) : State := withSlot .slotClaim (.inFlight (.slotClaim t) 7 none false) waitingStation

theorem test_witness_grant : ready (claiming 20) ∧ ownIdx (claiming 20) = some 1 ∧
    (claiming 20).dsu.requested = some .main ∧ (claiming 20).dsu.ownClaim = .waiting ∧
    (claiming 20).ncu.nest = .powerWait ∧ (claiming 20).dsu.powerWait = some 100000000 ∧
    ((claiming 20).dsu.sw .main).closed = false ∧ (claiming 20).stu.counter = .stopped ∧
    (claiming 20).rbc.onLine = some .slotClaim ∧
    (claiming 20).rbc.slot .slotClaim = .inFlight (.slotClaim 20) 7 none false ∧
    (claiming 20).dsu.claims.length < (claiming 20).rbc.sEff ∧
    (claiming 20).dsu.claims.all (fun e => decide (e.station ≠ 1)) = true := by
  unfold ready; decide +kernel
theorem test_grant_powers_up :
    let t := grantOwn (claiming 2000)
    t.ncu.nest = .powered ∧ (t.dsu.sw .main).closed = true ∧ t.vnp.port = .active ∧ t.stu.frame = 0 ∧
      t.dsu.inrush = some 2000000 := by decide +kernel
theorem test_witness_claim_frames :
    configured laden = true ∧ 256 * (7 : Byte).toNat + (208 : Byte).toNat = 2000 ∧
    256 * (0 : Byte).toNat + (20 : Byte).toNat = 20 ∧
    laden.dsu.claims.any (fun e => decide (e.station = 11)) = true ∧
    laden.dsu.claims.any (fun e => decide (e.station = 0)) = false := by decide +kernel
theorem test_witness_claim_timers :
    ready laden ∧ { laden.dsu with inrush := some 2000000 }.inrush = some 2000000 ∧
    laden.dsu.claims.find? (fun c => decide (c.station = 11)) = some (claim 11) ∧ (claim 11).expiry = some 2500000 ∧
    waitingStation.dsu.powerWait = some 100000000 := by
  unfold ready; decide +kernel

/-- Feedback that disagrees, in its window and with its mismatch timer run out, and a source that is lost. -/
def watched : State :=
  { poweredStation with
    pins := { poweredStation.pins with mainFb := false, auxOk := false }
    dsu := { poweredStation.dsu with
      main := { closed := true, window := some 50000, mismatch := none, loss := some 0 }
      aux := { Switch.resting with mismatch := some 0 } } }

theorem test_witness_supply_senses :
    ready watched ∧ watched.dsu.switchOver = none ∧ feedback watched .main ≠ (watched.dsu.sw .main).closed ∧
    (watched.dsu.sw .main).window = some 50000 ∧ (watched.dsu.sw .main).mismatch = none ∧
    feedback poweredStation .main = (poweredStation.dsu.sw .main).closed ∧ (poweredStation.dsu.sw .main).window = none ∧
    (poweredStation.dsu.sw .main).mismatch = none ∧ sourceGood watched .main = true ∧
    (watched.dsu.sw .main).closed = true ∧ sourceGood watched .aux = false ∧
    (watched.dsu.sw .aux).mismatch = some 0 ∧ (watched.dsu.sw .main).loss = some 0 := by
  unfold ready; decide +kernel
theorem test_witness_feedback_in_its_window :
    let s := { poweredStation with dsu := { poweredStation.dsu with
      main := { poweredStation.dsu.main with window := some 1 } } }
    configured s = true ∧ s.dsu.switchOver = none ∧ feedback s .main = (s.dsu.sw .main).closed ∧
    (s.dsu.sw .main).window.isSome = true := by decide +kernel
theorem test_switch_command_starts_its_window : did (.powerOff (params [])) { poweredStation with
    pins := { poweredStation.pins with mainFb := false } } (fun t =>
      decide ((t.dsu.sw .main).window = some 50000)) = true := by decide +kernel
theorem test_witness_samples :
    ready poweredStation ∧ anyClosed poweredStation.dsu = true ∧ (conf poweredStation).iRun * 100 < 5001 ∧
    poweredStation.dsu.overCount + 1 < (conf poweredStation).tripDelay ∧
    (conf poweredStation).tripDelay ≤ { poweredStation.dsu with overCount := 2 }.overCount + 1 ∧
    anyClosed clampedStation.dsu = false := by
  unfold ready; decide +kernel

/-! ### Halt and faults -/

theorem test_witness_halt_input :
    configured poweredStation = true ∧ ownIdx poweredStation = some 1 ∧ poweredStation.rbc.tx.off = false ∧
    poweredStation.cml.strapPanel = true ∧ poweredStation.hfu.mode = .normal ∧ haltInput poweredStation = false ∧
    haltFlag poweredStation.hfu = false ∧ haltedStation.hfu.mode = .halted ∧ haltInput haltedStation = true ∧
    haltFlag haltedStation.hfu = true ∧ ownIdx haltedStation = some 1 ∧
    (∀ other : HaltInput, other ≠ .haltIn → (match other with
      | .haltIn => haltedStation.ncu.haltIn.level
      | .estop => haltedStation.cml.strapPanel && haltedStation.ncu.estop.level) = false) := by
  refine ⟨by decide, by decide, by decide, by decide, by decide, by decide +kernel, by decide +kernel, by decide, by decide +kernel,
    by decide +kernel, by decide, ?_⟩
  intro other h
  cases other with
  | haltIn => exact absurd rfl h
  | estop => decide +kernel
theorem test_witness_halt_frames :
    ready poweredStation ∧ ownIdx poweredStation ≠ some 11 ∧ haltFlag poweredStation.hfu = false ∧
    poweredStation.cml.events = [] ∧ configured (withPeer 0 haltedStation) = true ∧
    (withPeer 0 haltedStation).hfu.mode = .halted ∧ haltFlag (withPeer 0 haltedStation).hfu = true ∧
    ownIdx (withPeer 0 haltedStation) ≠ some 0 ∧ ((withPeer 0 haltedStation).rbc.peers[(0 : StationIdx)]).present = true := by
  unfold ready; decide +kernel
theorem test_witness_halt_frames_in_fault_and_lockout :
    configured faultStation = true ∧ ownIdx faultStation ≠ some 0 ∧ haltFlag faultStation.hfu = false ∧
    faultStation.cml.events = [] ∧ faultStation.hfu.mode = .fault ∧
    (∀ c : CheckIdx, (faultStation.cke.checks[c]).state ≠ .settling ∧ (faultStation.cke.checks[c]).state ≠ .opened) ∧
    (inMode .lockout (withPeer 0 station)).hfu.mode = .lockout ∧ (inMode .lockout (withPeer 0 station)).cml.events = [] ∧
    haltFlag (inMode .lockout (withPeer 0 station)).hfu = false ∧
    ((inMode .lockout (withPeer 0 station)).rbc.peers[(0 : StationIdx)]).present = true := by decide +kernel

/-- The halt of station 0 alone stands, in a mode; station 0 is PRESENT. -/
def haltedBy0 (m : Mode) : State :=
  let s := inMode m (withPeer 0 station)
  { s with hfu := { s.hfu with sources := vset s.hfu.sources 0 true } }

theorem test_witness_halt_clears :
    [Mode.halted, .fault, .lockout].all (fun m => configured (haltedBy0 m) && haltFlag (haltedBy0 m).hfu &&
      decide ((haltedBy0 m).hfu.mode = m) && decide (ownIdx (haltedBy0 m) ≠ some 0) &&
      ((haltedBy0 m).rbc.peers[(0 : StationIdx)]).present &&
      did (.haltClearAccepted 0 [0]) (haltedBy0 m) (fun t => !haltFlag t.hfu)) = true ∧
    did (.haltClearAccepted 0 [1]) (withPeer 0 haltedStation) (fun t => haltFlag t.hfu) = true := by decide +kernel
/-- A station whose index straps read none of 0 to 11. -/
def unplaced (s : State) : State := { s with cml := { s.cml with strapIndex := 12 } }

theorem test_witness_halt_without_an_index :
    ownIdx (unplaced station) = none ∧ configured (unplaced station) = true ∧ haltInput (unplaced station) = false ∧
    did (.haltInputChange .haltIn true) (unplaced station) (fun t => t.hfu.ownMark && decide (t.hfu.mode = .halted) &&
      did (.haltInputChange .haltIn false) t (fun u => !u.hfu.ownMark && decide (u.hfu.mode = .normal))) = true := by
  decide +kernel
theorem test_witness_halt_with_a_member :
    [Mode.halted, .fault, .lockout].all (fun m => configured (haltedBy0 m) && !haltInput (haltedBy0 m) &&
      haltFlag (haltedBy0 m).hfu && !(haltedBy0 m).rbc.tx.off && decide (ownIdx (haltedBy0 m) = some 1) &&
      did (.haltInputChange .haltIn true) (haltedBy0 m) (fun t => t.hfu.sources[(1 : StationIdx)] && decide (t.hfu.mode = m) &&
        decide (t.rbc.slot .halt ≠ .empty) && t.cml.events.isEmpty) &&
      did (.haltAccepted 11) (haltedBy0 m) (fun t => t.hfu.sources[(11 : StationIdx)] && decide (t.hfu.mode = m) &&
        decide (t.cml.events.map (·.event) = [.peerJoined 11]))) = true := by decide +kernel

/-- A frame of the station's own is on the line. -/
def flying (p : Payload) (s : State) : State := withSlot p.kind (.inFlight p 7 none false) s

theorem own_heard {s : State} {i : StationIdx} {p : Payload} (own : ownIdx s = some i)
    (line : s.rbc.onLine = some p.kind) (slot : s.rbc.slot p.kind = .inFlight p 7 none false) : heardFrom s i p :=
  .inr ⟨own, line, 7, slot⟩

theorem test_witness_own_halt_frames :
    heardFrom (flying .halt haltedStation) 1 .halt ∧ heardFrom (flying (.haltClear true) (haltedBy0 .halted)) 1 (.haltClear true) ∧
    heardFrom (haltedBy0 .fault) 0 (.haltClear false) ∧
    did (.haltAccepted 1) (flying .halt haltedStation) (fun t => decide (t.hfu = haltedStation.hfu) &&
      decide (t.rbc.slot .halt = .empty) && t.cml.events.isEmpty) = true :=
  ⟨own_heard (by decide +kernel) (by decide +kernel) (by decide +kernel),
    own_heard (by decide +kernel) (by decide +kernel) (by decide +kernel), .inl (by decide +kernel), by decide +kernel⟩
theorem test_witness_halt_input_elsewhere :
    configured faultStation = true ∧ ownIdx faultStation = some 1 ∧ faultStation.rbc.tx.off = false ∧
    haltInput faultStation = false ∧ haltFlag faultStation.hfu = false ∧ (inMode .lockout station).hfu.mode = .lockout ∧
    haltInput (inMode .lockout station) = false ∧ haltFlag (inMode .lockout station).hfu = false := by decide +kernel
theorem test_witness_keys :
    station.cml.strapPanel = true ∧ station.prs.queue = [] ∧ station.prs.role = true ∧
    laden.prs.queue = queued 2 .judge true 0 none :: [queued 0 .action false 15 none] ∧ laden.prs.role = true ∧
    laden.rbc.tx = .on ∧ laden.prs.keySettle = none ∧ laden.rbc.slot .promptAnswer = .empty ∧ haltInput laden = false := by
  decide +kernel
/-- The panel with a text for message 7 and a board of one PASS that stands and one FAIL that is STALE. -/
def showing : State :=
  { laden with prs := { laden.prs with
      messages := vset laden.prs.messages 7 (ascii "TURN THE KEY")
      board := vset (vset laden.prs.board 11
          (some { serial := 1, verdict := .pass, counts := none, fromResult := false, stale := false })) 0
        (some { serial := 2, verdict := .fail, counts := none, fromResult := true, stale := true }) } }

theorem test_witness_display :
    station.cml.strapPanel = true ∧ configured showing = true ∧ showing.prs.yielded = false ∧
    showing.prs.queue = queued 2 .judge true 0 none :: [queued 0 .action false 15 none] ∧
    (queued 2 .judge true 0 none).message < 256 ∧
    ([queued 0 .action false 15 none] : List QueueEntry).length < 12 ∧
    ({ showing.prs with yielded := true } : Prs).yielded = true ∧
    configured { showing with cml := { showing.cml with config := none } } = false := by decide +kernel
theorem test_display_lines :
    display showing = some (lineOf (ascii "TURN THE KEY"), lineOf (ascii "NEST 02 WAITING 1")) ∧
    display laden = some (lineOf (ascii "MESSAGE 007"), lineOf (ascii "NEST 02 WAITING 1")) ∧
    display { showing with prs := { showing.prs with queue := [] } } =
      some (lineOf [], lineOf (ascii "PASS 1 MARGINAL 0 FAIL 0 INCOMPLETE 0")) ∧
    display { showing with prs := { showing.prs with yielded := true } } =
      some (lineOf (ascii "PANEL CONFLICT"), List.replicate 40 32) := by decide +kernel
theorem test_witness_fault_resume :
    configured faultStation = true ∧ faultStation.hfu.mode = .fault ∧ faultStation.hfu.entry = some contained ∧
    contained.recoverable = true ∧ contained.cause.isBusOff = true ∧ Cause.isBusOff (.rbAbandon .halt) = false ∧
    { contained with recoverable := false }.recoverable = false ∧ station.hfu.mode = .normal ∧
    { faultStation.ncu with nest := .powerWait }.nest = .powerWait ∧ faultStation.rbc.tx.off = false :=
  ⟨rfl, rfl, rfl, rfl, rfl, rfl, rfl, rfl, rfl, rfl⟩
theorem test_witness_fault_abandon :
    faultStation.hfu.mode = .fault ∧ faultStation.cml.events = [] ∧
    (∀ k : CheckIdx, (faultStation.cke.checks[k]).state ≠ .settling ∧ (faultStation.cke.checks[k]).state ≠ .opened) ∧
    (inMode .lockout faultStation).hfu.mode = .lockout ∧ faultStation.ncu.nest = .powered := by decide +kernel

/-! ### The stimulus -/

/-- SET_CHANNEL of S2: FREQ 10700 cHz with slew 300, at a timing; and with nothing present. -/
def channelBytes (timing mask : Byte) : List Byte :=
  [2, timing, mask, 1, 0xCC, 0x29, 0, 0] ++ List.replicate 12 0 ++ [0x2C, 1, 0, 0, 0]

/-- The update those bytes carry. -/
def rampUpdate : ChannelUpdate :=
  { mode := some .freq, freq := some 10700, duty := none, count := none, width := none, value := none, slew := some 300
    link := none }

/-- C46 is OPEN with the last of its samples due, C45 SETTLING, and C44 ARMED to start AFTER C46. -/
def disturbed : State :=
  let at' (left : Timer) : CheckWindow :=
    { openTick := 0, left := left, ref := none, raw := nothingYet, spill := nothingYet, spillApply := false }
  let run : RunPart := { armSeq := 1, start := some { frame := 0, tick := 0 }, settle := none, deadline := none
                         waiting := false, samples := [], window := none }
  let d (cond arg settle : Nat) : CheckDef :=
    { CheckDef.blank with kind := .level, cond := cond, condArg := arg, settle := settle, samples := 1 }
  withCheck 46 { defn := d 0 0 5, state := .opened, run := some { run with window := some (at' (some 10000)) } }
    (withCheck 45 { defn := d 0 0 5, state := .settling, run := some { run with settle := some 3 } }
      (withCheck 44 { defn := d 4 46 5, state := .armed, run := some { run with start := none } } poweredStation))

theorem test_witness_staging :
    configured station = true ∧ (channelBytes 1 67).length = 25 ∧ (inMode .halted station).hfu.mode ≠ .normal ∧
    updateAllowed (channelBytes 1 67) ∧ updateAllowed (channelBytes 2 67) ∧ updateAllowed (channelBytes 1 0) ∧
    ¬updateAllowed (channelBytes 3 67) ∧ ¬updateAllowed ((channelBytes 1 67).set 0 6) ∧ ¬updateAllowed ((channelBytes 1 67).set 0 8) ∧
    ¬updateAllowed (((channelBytes 1 195).set 0 0).set 24 1) ∧ ¬updateAllowed ((channelBytes 1 195).set 24 2) ∧
    numAt (channelBytes 1 67) 0 1 = (2 : ChannelIdx).val ∧ numAt (channelBytes 2 67) 1 1 = 2 ∧
    updateAsked (channelBytes 1 67) = rampUpdate ∧ updateAsked (channelBytes 1 0) = ChannelUpdate.none ∧
    rampUpdate ≠ ChannelUpdate.none ∧ updateMoved (channelBytes 1 67) = false ∧ updateMoved (channelBytes 1 8) = true ∧
    2 < (3 : Byte).toNat ∧ (2 : Byte).toNat ≤ 2 := by
  unfold updateAllowed
  repeat' apply And.intro
  all_goals decide +kernel
theorem test_channel_bytes_are_adjusted :
    did (.setChannel (params (channelBytes 1 24))) station (fun t =>
      decide (t.stu.next[(2 : ChannelIdx)] = some { ChannelUpdate.none with count := some 1, width := some 1 }) &&
        decide (t.cml.response.map (·.status) = some .okAdjusted)) = true ∧
    did (.setChannel (params (channelBytes 3 67))) station (fun t =>
      decide (t.stu.next[(2 : ChannelIdx)] = none) && decide (t.cml.response.map (·.status) = some .range)) = true := by
  decide +kernel
theorem test_witness_immediate :
    ready disturbed ∧ applyPlain disturbed ∧ (channelBytes 0 67).length = 25 ∧ updateAllowed (channelBytes 0 67) ∧
    numAt (channelBytes 0 67) 0 1 = (2 : ChannelIdx).val ∧ numAt (channelBytes 0 67) 1 1 = 0 ∧
    updateAsked (channelBytes 0 67) ≠ ChannelUpdate.none ∧
    ((disturbed.stu.discretes &&& ~~~(1 : BitVec 16)) ||| ((1 : BitVec 16) &&& 1)) ≠ disturbed.stu.discretes ∧
    ((disturbed.stu.discretes &&& ~~~(1 : BitVec 16)) ||| ((0 : BitVec 16) &&& 1)) = disturbed.stu.discretes := by
  unfold ready applyPlain startsPlainly settlesPlainly updateAllowed; decide +kernel
theorem test_apply_event_disturbs : did (.setDiscretes (params [0, 1, 0, 1, 0])) disturbed (fun t =>
    decide ((t.cke.checks[(46 : CheckIdx)]).state = .done) &&
      decide (t.cke.record.map (fun e => e.result.verdict) = [.invalid]) &&
      decide ((t.cke.checks[(45 : CheckIdx)]).run.bind (·.settle) = some 50000) &&
      decide ((t.cke.checks[(44 : CheckIdx)]).state = .settling)) = true := by decide +kernel
/-- The stations of the boundary: C43 starts AT_FRAME 42, and an update that changes a mode stands in NEXT. -/
def boundary (hold staged : Bool) : State :=
  let c : Check := { defn := { CheckDef.blank with kind := .level, cond := 1, condArg := 42, settle := 5 }, state := .armed
                     run := some { armSeq := 1, start := none, settle := none, deadline := none, waiting := false
                                   samples := [], window := none } }
  let s := withCheck 43 c disturbed
  { s with stu := { s.stu with hold := hold, next := if staged then vset s.stu.next 2 (some rampUpdate) else s.stu.next } }

theorem test_witness_frame_boundary :
    (boundary false true).stu.frameTimer = some 100000 ∧ (boundary false true).stu.hold = false ∧
    (boundary true true).stu.hold = true ∧ (∀ i : ChannelIdx, (boundary false false).stu.next[i] = none) ∧
    (boundary false false).stu.groupNext = none ∧
    (boundary false true).stu.next[(2 : ChannelIdx)] = some rampUpdate ∧
    rampUpdate.mode = some .freq ∧ ((boundary false true).stu.channels[(2 : ChannelIdx)]).mode ≠ .freq ∧
    (∀ i : CheckIdx, ((boundary false true).cke.checks[i]).state.isArmed = true →
      ((boundary false true).cke.checks[i]).defn.settle ≠ 0) := by decide +kernel
theorem test_witness_boundary_is_plain :
    let s := boundary false true
    applyPlain (elapse 9999 { s with stu := { s.stu with frameTimer := some 9999 } }) ∧
    ({ s with stu := { s.stu with frameTimer := some 9999 } } : State).stu.frameTimer = some 9999 := by
  unfold applyPlain startsPlainly settlesPlainly; decide +kernel

/-- 4.4's example: S2 in FREQ at 10000 cHz with target 10700 and slew 300. -/
def ramping : Channel :=
  { Channel.idle with mode := .freq, freq := 10700, slew := 300, workFreq := 10000, figures := some (100000, 50000)
                      realFreq := 10000, realDuty := 5000, realValue := 10000, drive := .wave 100000 50000 100000 true }

theorem test_ramp_first_step : did .frameBoundary (withChannel 2 ramping poweredStation) (fun t =>
    let c := t.stu.channels[(2 : ChannelIdx)]
    decide (c.workFreq = 10300) && decide (c.figures = some (97087, 48544)) && decide (c.realFreq = 10300)) = true := by
  decide +kernel

/-- A burst of three pulses in progress, and a one-shot pulse. -/
def bursting : Channel := { ramping with mode := .pulse, burst := some 3, drive := .wave 100000 50000 50000 false }
def shooting : Channel := { Channel.idle with mode := .oneshot, width := 500, realValue := 500, drive := .shot 500 }

theorem test_witness_waveforms :
    ((withChannel 2 ramping poweredStation).stu.channels[(2 : ChannelIdx)]).gated = false ∧
    ramping.drive = .wave 100000 50000 100000 true ∧ 50000 < 100000 ∧ ramping.mode ≠ .pulse ∧
    bursting.drive = .wave 100000 50000 50000 false ∧ bursting.mode = .pulse ∧ bursting.burst = some 3 ∧
    shooting.drive = .shot 500 ∧ bursting.gated = false ∧ shooting.gated = false := by decide +kernel
theorem test_burst_counts_down : did (.periodEnd 2) (withChannel 2 bursting poweredStation) (fun t =>
    decide ((t.stu.channels[(2 : ChannelIdx)]).burst = some 2)) = true := by decide +kernel

/-! ### The vehicle network -/

/-- An enabled slot with an instance. -/
def slotWith (x : Inst) : VnSlot :=
  { VnSlot.blank with enable := true, identifier := 0x123, length := 2, period := 10, inst := x, due := some 100000 }

theorem test_witness_due :
    ((withVn 23 (slotWith .none) poweredStation).vnp.slots[(23 : TxSlotIdx)]).due = some 100000 ∧
    ((withVn 23 (slotWith .none) poweredStation).vnp.slots[(23 : TxSlotIdx)]).enable = true ∧
    portLive (withVn 23 (slotWith .none) poweredStation) ∧ (23 : Byte).toNat = (23 : TxSlotIdx).val ∧
    24 ≤ (24 : Byte).toNat ∧ (poweredStation.vnp.slots[(0 : TxSlotIdx)]).enable = false ∧ ¬portLive station ∧
    configured poweredStation = true ∧ poweredStation.hfu.mode = .normal := by
  unfold portLive; decide +kernel

/-- One PENDING instance in slot 5 and none on the line. -/
def pendingVn : State := withVn 5 (slotWith (.pending 7)) poweredStation

theorem pendingVn_inst (j : TxSlotIdx) : (pendingVn.vnp.slots[j]).inst = if j = 5 then .pending 7 else .none := by
  revert j; decide +kernel
theorem test_witness_line_free :
    portLive pendingVn ∧ (∀ (j : TxSlotIdx) y d, (pendingVn.vnp.slots[j]).inst ≠ .onLine y d) ∧
    (pendingVn.vnp.slots[(5 : TxSlotIdx)]).inst = .pending 7 ∧
    (∀ (j : TxSlotIdx) y, (pendingVn.vnp.slots[j]).inst = .pending y →
      (pendingVn.vnp.slots[(5 : TxSlotIdx)]).order < (pendingVn.vnp.slots[j]).order ∨
        ((pendingVn.vnp.slots[(5 : TxSlotIdx)]).order = (pendingVn.vnp.slots[j]).order ∧ 5 ≤ j)) := by
  refine ⟨Or.inl rfl, fun j y d => ?_, by decide +kernel, fun j y h => ?_⟩
  · rw [pendingVn_inst]; split <;> simp
  · rw [pendingVn_inst] at h
    split at h
    · rename_i hj; subst hj; exact .inr ⟨rfl, Nat.le_refl _⟩
    · cases h
theorem test_witness_line_not_free :
    ¬portLive station ∧ (∀ (j : TxSlotIdx) y, (poweredStation.vnp.slots[j]).inst ≠ .pending y) ∧
    (∃ (j : TxSlotIdx) (y : BitVec 64) (d : Bool),
      ((withVn 5 (slotWith (.onLine 7 false)) poweredStation).vnp.slots[j]).inst = .onLine y d) := by
  have h : ∀ j : TxSlotIdx, (poweredStation.vnp.slots[j]).inst = .none := by decide +kernel
  refine ⟨by unfold portLive; decide, fun j y => ?_, 5, 7, false, by decide +kernel⟩
  rw [h j]; simp
theorem test_witness_order :
    ({ slotWith .none with extended := true, identifier := 536870911 } : VnSlot).identifier < 536870912 ∧
    ({ slotWith .none with identifier := 2047 } : VnSlot).identifier < 2048 := by decide

/-- Slot 5's instance on the line, with TEC at a value. -/
def onLineVn (tec : Nat) : State :=
  let s := withVn 5 (slotWith (.onLine 7 false)) poweredStation
  { s with vnp := { s.vnp with tec := tec } }

theorem test_witness_attempt_end :
    portLive (onLineVn 248) ∧ ((onLineVn 248).vnp.slots[(5 : TxSlotIdx)]).inst = .onLine 7 false ∧
    (∀ (j : TxSlotIdx) y d, ((onLineVn 248).vnp.slots[j]).inst = .onLine y d → j = 5) ∧ (247 : Nat) + 8 < 256 ∧
    256 ≤ (onLineVn 248).vnp.tec + 8 ∧ ready (onLineVn 248) := by
  have h : ∀ j : TxSlotIdx, ((onLineVn 248).vnp.slots[j]).inst = if j = 5 then .onLine 7 false else .none := by decide +kernel
  refine ⟨Or.inl rfl, by decide +kernel, fun j y d e => ?_, by decide, by decide +kernel, by unfold ready; decide +kernel⟩
  rw [h j] at e
  split at e
  · assumption
  · cases e
theorem test_bus_off_at_256 : did (.vnAttemptEnd .transmitError) (onLineVn 248) (fun t =>
    decide (t.vnp.port = .busOff) && decide (t.hfu.mode = .fault)) = true := by decide +kernel
theorem test_passive_at_128 : did (.vnAttemptEnd .unacknowledged) (onLineVn 127) (fun t =>
    decide (t.vnp.port = .passive) && decide (t.vnp.tec = 135)) = true := by decide +kernel

def frameOf (remote : Bool) : VnFrame :=
  { extended := false, identifier := 2047, remote := remote, lengthCode := 15, data := List.replicate 8 1 }

/-- The first filter takes every standard frame, and C46 is an OPEN VN_FIELD check on it. -/
def filtering : State :=
  let w : CheckWindow :=
    { openTick := 0, left := some 10000, ref := none, raw := nothingYet, spill := nothingYet, spillApply := false }
  let s := withCheck 46
    { defn := { CheckDef.blank with kind := .vnField, rxFilter := 0 }, state := .opened
      run := some { armSeq := 1, start := some { frame := 0, tick := 0 }, settle := none, deadline := none, waiting := false
                    samples := [], window := some w } } poweredStation
  { s with vnp := { s.vnp with filters := vset s.vnp.filters 0 { (s.vnp.filters[(0 : FilterIdx)]) with format := .standard } } }

theorem test_witness_reception :
    portLive filtering ∧ filtering.vnp.tec < 256 ∧ (frameOf true).remote = true ∧ (frameOf false).remote = false ∧
    ¬portLive station ∧
    (List.finRange 16).find? (fun i => decide ((filtering.vnp.filters[i]).format = .standard) &&
      decide (((filtering.vnp.filters[i]).identifier ^^^ BitVec.ofNat 32 (frameOf false).identifier) &&&
        (filtering.vnp.filters[i]).mask = 0)) = some 0 ∧
    (List.finRange 16).find? (fun i => decide ((poweredStation.vnp.filters[i]).format = .standard) &&
      decide (((poweredStation.vnp.filters[i]).identifier ^^^ BitVec.ofNat 32 (frameOf false).identifier) &&&
        (poweredStation.vnp.filters[i]).mask = 0)) = none := by
  unfold portLive; decide +kernel
theorem test_frame_is_acknowledged_and_handed : did (.vnFrameReceived 7 (frameOf false)) filtering (fun t =>
    decide (t.vnp.driven = some [false]) &&
      decide ((t.cke.checks[(46 : CheckIdx)]).run.bind (fun r => r.window.bind (fun w => w.raw.hit)) =
        some { filter := 0, identifier := 2047, data := List.replicate 8 1, tick := 7 })) = true := by decide +kernel

/-! ### Response capture -/

/-- Group 2 matches a rise of line 15; C46 is an OPEN PATTERN check on it, and C45 is ARMED to start ON_MATCH of it. -/
def watching : State :=
  let w : CheckWindow :=
    { openTick := 0, left := some 10000, ref := none, raw := nothingYet, spill := nothingYet, spillApply := false }
  let run : RunPart := { armSeq := 1, start := none, settle := none, deadline := none, waiting := false, samples := []
                         window := none }
  let d : CheckDef := { CheckDef.blank with kind := .pattern, group := 2, cond := 2, condArg := 2, settle := 5 }
  let s := withCheck 46 { defn := d, state := .opened, run := some { run with window := some w } }
    (withCheck 45 { defn := d, state := .armed, run := some run } poweredStation)
  let g := s.rcu.groups[(2 : GroupIdx)]
  { s with rcu := { s.rcu with groups := vset s.rcu.groups 2 { g with terms := vset g.terms 15 .rise, latched := true } } }

theorem test_witness_line_edges : startsPlainly watching 2 ∧ (0x8000 : BitVec 16) ≠ 0 := by
  unfold startsPlainly settlesPlainly; decide +kernel
theorem test_match_starts_and_counts : did (.lineEdgeAccepted 3 0x8000) watching (fun t =>
    decide ((t.rcu.groups[(2 : GroupIdx)]).count = 1) && decide ((t.cke.checks[(45 : CheckIdx)]).state = .settling) &&
      decide ((t.cke.checks[(46 : CheckIdx)]).run.bind (fun r => r.window.map (fun w => w.raw.matchCount)) = some 1)) = true := by
  decide +kernel
theorem test_channel_edge_changes_the_pin : did (.lineEdgeAccepted 3 0x8001) station (fun t =>
    decide ((t.rcu.lines[(15 : LineIdx)]).level = true) && decide (t.pins.obs = 0x8001) && decide (t.rcu.timebase = 3)) = true := by
  decide +kernel

/-- M2 lent with an open window. -/
def measuring (counts : Bool) (first : Option Stamp) (level : Bool) : State :=
  withLent 2 (lentTo 3 counts (if counts then some 5 else none) first level) (withCheck 3 openFreq poweredStation)

/-- M2 lent to C3, with the window's count and threshold mark; C45 is ARMED to start ON_THRESHOLD of C3. -/
def counting (count : Nat) (reached : Bool) (level : Bool) : State :=
  let l := lentTo 3 true (some 5) none level
  let s := withLent 2 { l with window := l.window.map (fun w => { w with count := count, reached := reached }) }
    (withCheck 3 openFreq poweredStation)
  withCheck 45
    { defn := { CheckDef.blank with kind := .level, cond := 3, condArg := 3, settle := 5 }, state := .armed
      run := some { armSeq := 1, start := none, settle := none, deadline := none, waiting := false, samples := []
                    window := none } } s

/-- M2's side of an edge after `n` ticks: whether it counts, and whether its level is that of the reference edge. -/
def edgeSide (n : Nat) (s : State) : Option (Bool × Bool) :=
  ((elapse n s).rcu.meas[(2 : MeasIdx)]).map (fun l => (l.counts, decide (l.level = l.rise)))

/-- M2's window at an edge after `n` ticks: its count, its periods, its first mark, and whether the edge lies in it. -/
def edgeWindow (n : Nat) (s : State) : Option (Nat × Nat × Bool × Bool) :=
  let e := elapse n s
  (e.rcu.meas[(2 : MeasIdx)]).bind (fun l => l.window.map (fun w =>
    (w.count, w.n, w.first.isSome, decide ((e.rcu.timebase - w.openTick).toNat < w.span))))

theorem test_witness_channel_edges :
    edgeSide 0 (counting 4 false false) = some (true, false) ∧ edgeSide 0 (counting 4 false true) = some (true, true) ∧
    edgeWindow 0 (counting 4 false true) = some (4, 0, false, true) ∧
    edgeWindow 9999 (counting 5 true false) = some (5, 0, false, true) ∧
    edgeWindow 10000 (counting 4 false false) = some (4, 0, false, false) ∧
    edgeWindow 0 (counting 16777215 true false) = some (16777215, 0, false, true) ∧
    edgeWindow 0 (counting 16777214 true false) = some (16777214, 0, false, true) ∧ edgeSide 0 poweredStation = none ∧
    edgeSide 0 (withLent 2 { lentTo 3 true none none false with window := none } poweredStation) = some (true, false) ∧
    edgeWindow 0 (withLent 2 { lentTo 3 true none none false with window := none } poweredStation) = none := by
  decide +kernel
theorem test_witness_threshold :
    startsPlainly (counting 4 false false) 3 ∧ (lentTo 3 true (some 5) none false).theta = some (4 + 1) ∧
    (lentTo 3 true (some 5) none false).theta ≠ some (5 + 1) := by
  unfold startsPlainly settlesPlainly; decide +kernel
/-- An overdue close hands its kept edges to the next window, and the run count gathered since stays (R105). -/
theorem test_kept_edges_leave_the_run_count :
    let l : Lent := { lentTo 3 true none none true with filter := 9, run := 4, late := [10003] }
    let t := (l.openAt 10000 10000).1
    t.run = 4 ∧ t.level = true ∧ t.window.map (·.count) = some 1 := by decide +kernel
theorem test_threshold_starts_the_waiting : did (.channelEdge 0 2) (counting 4 false false) (fun t =>
    decide ((t.cke.checks[(45 : CheckIdx)]).state = .settling) && decide (t.cml.events.length = 1)) = true := by decide +kernel
/-- M2 measures periods, with the number of them so far. -/
def timing (n : Nat) (first : Option Stamp) (level : Bool) : State :=
  let l := lentTo 3 false none first level
  withLent 2 { l with window := l.window.map (fun w => { w with n := n }) } (withCheck 3 openFreq poweredStation)

theorem test_witness_period_edges :
    edgeSide 0 (timing 0 none true) = some (false, true) ∧ edgeWindow 0 (timing 0 none true) = some (4, 0, false, true) ∧
    edgeSide 0 (timing 0 none false) = some (false, false) ∧ edgeWindow 0 (timing 0 none false) = some (4, 0, false, true) ∧
    edgeWindow 0 (timing 16777214 (some 0) false) = some (4, 16777214, true, true) ∧
    edgeWindow 0 (timing 16777215 (some 0) false) = some (4, 16777215, true, true) := by decide +kernel

/-! ### The checks -/

/-- A check of a definition in a state, with its run-time part. -/
def runOf (settle deadline : Timer) : RunPart :=
  { armSeq := 1, start := some { frame := 0, tick := 0 }, settle := settle, deadline := deadline, waiting := false, samples := []
    window := none }

def checkIn (kind : CheckKind) (cond settle : Nat) (state : CheckState) (run : Option RunPart) : Check :=
  { defn := { CheckDef.blank with kind := kind, cond := cond, settle := settle, channel := 3 }, state := state, run := run }

/-- C0 and C47 are defined and IDLE. -/
def defined : State :=
  withCheck 0 (checkIn .level 0 5 .idle none) (withCheck 47 (checkIn .pattern 2 0 .idle none) poweredStation)

/-- The set of C0 and C47. -/
def bothEnds : List Byte := [1, 0, 0, 0, 0, 0x80]

theorem test_witness_arming :
    configured defined = true ∧ bothEnds.length = 6 ∧ defined.hfu.mode = .normal ∧ defined.ncu.nest = .powered ∧
    (¬∃ i : CheckIdx, marked bothEnds i = true ∧ (defined.cke.checks[i]).state.isArmed = true) ∧
    (¬∃ i : CheckIdx, marked bothEnds i = true ∧ (defined.cke.checks[i]).defn.kind = .none) ∧
    (∀ i : CheckIdx, marked bothEnds i = true → settlesPlainly defined.cke.checks[i]) := by
  unfold settlesPlainly; decide +kernel
theorem test_witness_arming_refused :
    (∃ i : CheckIdx, marked [2, 0, 0, 0, 0, 0] i = true ∧ (defined.cke.checks[i]).defn.kind = .none) ∧
    (∃ i : CheckIdx, marked [8, 0, 0, 0, 0, 0] i = true ∧ (laden.cke.checks[i]).state.isArmed = true) ∧
    ¬(seatedStation.hfu.mode = .normal ∧ seatedStation.ncu.nest = .powered) ∧ laden.ncu.nest = .powered ∧
    laden.hfu.mode = .normal := by decide +kernel

/-- C0 and C47 are ARMED. -/
def armedStation : State :=
  withCheck 0 (checkIn .level 2 5 .armed (some (runOf none none)))
    (withCheck 47 (checkIn .pattern 2 0 .armed (some (runOf none none))) poweredStation)

/-- C40 is SETTLING and waits for M3, C41 holds M2, C42 holds the prompt slot, and C43 waits AFTER C40. -/
def crowded : State :=
  let c (kind : CheckKind) (cond arg : Nat) (state : CheckState) (run : RunPart) : Check :=
    { defn := { CheckDef.blank with kind := kind, cond := cond, condArg := arg, settle := 5, channel := 2 }, state := state
      run := some run }
  let w : CheckWindow :=
    { openTick := 0, left := some 10000, ref := none, raw := nothingYet, spill := nothingYet, spillApply := false }
  let s := withCheck 40 (c .freq 0 0 .settling { runOf none none with waiting := true })
    (withCheck 41 (c .freq 0 0 .opened { runOf none none with window := some w })
      (withCheck 42 (c .operator 0 0 .opened { runOf none none with window := some { w with left := none } })
        (withCheck 43 (c .level 4 40 .armed (runOf none none)) poweredStation)))
  let s := withLent 2 (lentTo 41 false none none false) s
  { s with prs := { s.prs with slot := some { holder := some 42, kind := .judge, urgent := false, message := 7, tag := 3
                                              duration := 0, answer := some 5, shown := false } } }

/-- The set of C40, C41 and C42. -/
def theCrowd : List Byte := [0, 0, 0, 0, 0, 7]

theorem test_witness_disarming :
    configured crowded = true ∧ crowded.hfu.mode = .normal ∧ theCrowd.length = 6 ∧ lendLaw crowded = true ∧
    startsPlainly crowded 4 ∧ (∀ i : CheckIdx, waitsAs crowded (fun _ => true) i = true → marked theCrowd i = true) ∧
    waitsAs crowded (fun _ => true) 40 = true ∧ crowded.prs.slot.map (·.holder) = some (some 42) ∧
    (List.finRange 48).filter (fun i => marked theCrowd i && (crowded.cke.checks[i]).state.isArmed) = [40, 41, 42] ∧
    lendLaw armedStation = true ∧ startsPlainly armedStation 4 ∧
    (∀ i : CheckIdx, waitsAs armedStation (fun _ => true) i = true → marked bothEnds i = true) ∧ armedStation.prs.slot = none := by
  unfold startsPlainly settlesPlainly; decide +kernel
theorem test_abort_of_a_set_hands_on_after_it : did (.disarmChecks (params theCrowd)) crowded (fun t =>
    decide (t.cke.record.map (·.check) = [40, 41, 42]) && decide (t.rcu.meas[(2 : MeasIdx)] = none) &&
      decide (t.rbc.slot .promptCancel = .pending (.promptCancel 3) 0) &&
      decide ((t.cke.checks[(43 : CheckIdx)]).state = .settling)) = true := by decide +kernel
theorem test_witness_results :
    configured laden = true ∧ laden.hfu.mode = .normal ∧ configured haltedStation = true ∧ haltedStation.hfu.mode = .halted ∧
    configured faultStation = true ∧ faultStation.hfu.mode = .fault ∧ laden.cke.record.length = 1 := by decide +kernel

/-- C46 is SETTLING, its settle time over; M3 is lent to C3 or free. -/
def settling (kind : CheckKind) (lent : Bool) : State :=
  let s := withCheck 46 (checkIn kind 0 5 .settling (some (runOf (some 0) (some 20000)))) poweredStation
  if lent then withLent 3 (lentTo 3 false none none false) s else s

/-- C46 is SETTLING after the ticks of its settle timer, with the definition and run-time part it had. -/
def settled (k : CheckKind) (lent : Bool) : Bool :=
  let c := (elapse 0 (settling k lent)).cke.checks[(46 : CheckIdx)]
  decide (c.state = .settling) && decide (c.run = some (runOf (some 0) (some 20000))) && decide (c.defn.kind = k) &&
    decide (((settling k lent).cke.checks[(46 : CheckIdx)]).run.bind (·.settle) = some 0)

theorem test_witness_settled :
    settled .level false = true ∧ settled .current false = true ∧ settled .freq true = true ∧ settled .count false = true := by
  decide +kernel
theorem test_witness_settled_channels :
    ((elapse 0 (settling .freq true)).rcu.meas[(3 : MeasIdx)]).isSome = true ∧
    (elapse 0 (settling .count false)).rcu.meas[(3 : MeasIdx)] = none ∧
    Fin.ofNat 4 ((elapse 0 (settling .count false)).cke.checks[(46 : CheckIdx)]).defn.channel = (3 : MeasIdx) ∧
    firstWaiting (withCheck 46 { (settling .count false).cke.checks[(46 : CheckIdx)] with
        run := some { runOf none (some 20000) with waiting := true } } (settling .count false))
      (fun x => needsChannel x.kind && decide (Fin.ofNat 4 x.channel = 3)) = some 46 := by decide +kernel

/-- The transmitter is OFF by its strap. -/
def silent (s : State) : State := { s with rbc := { s.rbc with tx := .offStrap } }

theorem test_witness_settled_operator :
    settled .operator false = true ∧ (settling .operator false).prs.slot = none ∧
    (settling .operator false).rbc.tx.off = false ∧ (silent (settling .operator false)).rbc.tx.off = true ∧
    lendLaw (silent (settling .operator false)) = true ∧ startsPlainly (silent (settling .operator false)) 4 ∧
    (∀ j : CheckIdx, ((silent (settling .operator false)).cke.checks[j]).state = .settling → j = 46) ∧
    ((elapse 0 (silent (settling .operator false))).cke.checks[(46 : CheckIdx)]).run = some (runOf (some 0) (some 20000)) ∧
    crowded.prs.slot.isSome = true := by
  unfold startsPlainly settlesPlainly; decide +kernel
theorem test_operator_asks : did (.settleTimerExpiry 46) (settling .operator false) (fun t =>
    decide (t.prs.slot.map (·.holder) = some (some 46)) && decide ((t.cke.checks[(46 : CheckIdx)]).state = .opened) &&
      decide (t.rbc.slot .promptReq ≠ .empty)) = true := by decide +kernel
theorem test_witness_deadline :
    lendLaw (settling .freq false) = true ∧ startsPlainly (settling .freq false) 4 ∧
    ((elapse 20000 (settling .freq false)).cke.checks[(46 : CheckIdx)]).state = .settling ∧
    ((settling .freq false).cke.checks[(46 : CheckIdx)]).run.bind (·.deadline) = some 20000 ∧
    ((elapse 20000 (settling .freq false)).cke.checks[(46 : CheckIdx)]).defn.samples ≠ 0 ∧
    ((elapse 20000 (settling .freq false)).cke.checks[(46 : CheckIdx)]).run.map (·.samples) = some [] := by
  unfold startsPlainly settlesPlainly; decide +kernel

/-- C46 is OPEN, its window over, with K samples asked for. -/
def closing (k : Nat) : State :=
  let w : CheckWindow :=
    { openTick := 0, left := some 0, ref := none, raw := nothingYet, spill := nothingYet, spillApply := false }
  let c := checkIn .level 0 0 .opened (some { runOf none none with window := some w })
  withCheck 46 { c with defn := { c.defn with samples := k } } poweredStation

theorem test_witness_window_close :
    lendLaw (closing 1) = true ∧ startsPlainly (closing 1) 4 ∧ lendLaw (closing 2) = true ∧ startsPlainly (closing 2) 4 ∧
    ((closing 1).cke.checks[(46 : CheckIdx)]).run.bind (fun x => x.window.bind (·.left)) = some 0 ∧
    ((elapse 0 (closing 1)).cke.checks[(46 : CheckIdx)]).defn.kind = .level ∧
    ((elapse 0 (closing 1)).cke.checks[(46 : CheckIdx)]).state = .opened ∧
    ((elapse 0 (closing 1)).cke.checks[(46 : CheckIdx)]).defn.samples = 1 ∧
    ((elapse 0 (closing 2)).cke.checks[(46 : CheckIdx)]).defn.samples = 2 ∧
    ((elapse 0 (closing 2)).cke.checks[(46 : CheckIdx)]).run.map (·.samples) = some [] ∧
    ((elapse 0 (closing 2)).cke.checks[(46 : CheckIdx)]).run.bind (fun x => x.window.map (·.spillApply)) = some false := by
  unfold startsPlainly settlesPlainly; decide +kernel

/-- C46 measures the frequency on M3: its window of 1 ms is over, with `n` periods counted. -/
def closingFreq (k n : Nat) : State :=
  let s := closing k
  let c := s.cke.checks[(46 : CheckIdx)]
  let l := lentTo 46 false none (some 100) false
  withLent 3 { l with window := l.window.map (fun w => { w with n := n, last := 8100, h := 4000 }) }
    (withCheck 46 { c with defn := { c.defn with kind := .freq, window := 1, settle := 5, m := 1, d := 1, o := 0 } } s)

theorem test_witness_channel_close :
    lendLaw (closingFreq 1 4) = true ∧ startsPlainly (closingFreq 1 4) 4 ∧ lendLaw (closingFreq 2 0) = true ∧
    (((elapse 0 (closingFreq 1 4)).rcu.meas[(3 : MeasIdx)]).bind (·.window)).map (·.n) = some 4 ∧
    ((closingFreq 2 0).rcu.meas[(3 : MeasIdx)]).map (·.late) = some [] ∧
    ((elapse 0 (closingFreq 1 4)).cke.checks[(46 : CheckIdx)]).state = .opened ∧
    ((closingFreq 1 4).cke.checks[(46 : CheckIdx)]).run.bind (fun x => x.window.bind (·.left)) = some 0 := by
  unfold startsPlainly settlesPlainly; decide +kernel
theorem test_frequency_of_a_window : did (.windowClose 46) (closingFreq 1 4) (fun t =>
    decide (t.cke.record.map (fun e => e.result.samples.map (·.eng)) = [[some 500000]]) &&
      decide (t.rcu.meas[(3 : MeasIdx)] = none)) = true := by decide +kernel
theorem test_first_window_ends_the_check : did (.windowClose 46) (closing 1) (fun t =>
    decide ((t.cke.checks[(46 : CheckIdx)]).state = .done) && decide (t.cke.record.length = 1)) = true := by decide +kernel
theorem test_witness_sample_arithmetic :
    speedCheck.d ≠ 0 ∧ Flags.none.noSignal = false ∧ { Flags.none with disturbed := true }.disturbed = true ∧
    (∀ x ∈ [sampled .pass (some 1), sampled .invalid none], x.verdict ≠ .aborted) ∧
    2 * ([sampled .pass (some 1)].filter (fun x => decide (x.verdict ≠ .invalid))).length < 3 ∧
    2 ≤ 2 * ([sampled .pass (some 1)].filter (fun x => decide (x.verdict ≠ .invalid))).length ∧
    [sampled .invalid none].filterMap (·.eng) = [] ∧ [sampled .pass (some 1)].filterMap (·.eng) ≠ [] := by decide +kernel

/-! ### The prompt service -/

/-- The host's JUDGE request of tag 15, WAITING or not yet. -/
def held (kind : PromptKind) (answer : Timer) : PromptSlot :=
  { holder := none, kind := kind, urgent := true, message := 255, tag := 15, duration := if kind = .notice then 30 else 0
    answer := answer, shown := false }

def withPrompt (p : PromptSlot) (s : State) : State := { s with prs := { s.prs with slot := some p } }

theorem test_witness_prompts :
    configured station = true ∧ station.prs.slot = none ∧ station.rbc.tx.off = false ∧ 1 ≤ (3 : Byte).toNat ∧ (3 : Byte).toNat ≤ 3 ∧
    (1 : Byte).toNat ≤ 1 ∧ 3 < (4 : Byte).toNat ∧ 1 < (2 : Byte).toNat ∧ (silent station).rbc.tx.off = true ∧
    (silent station).hfu.mode = .normal ∧ (silent station).prs.slot = none ∧ firstWaiting (silent station) asksOperator = none ∧
    (inMode .halted station).hfu.mode ≠ .normal ∧ (withPrompt (held .judge none) station).prs.slot.isSome = true ∧
    slotPasses (withPrompt (held .judge none) (silent station)) ∧ slotPasses (withPrompt (held .judge none) station) ∧
    (held .judge none).holder = none ∧ { held .judge none with holder := some 3 }.holder.isSome = true := by
  unfold slotPasses; decide +kernel
theorem test_cancelled_slot_is_handed_on : did (.cancelPrompt (params [])) (withPrompt (held .judge none)
    (withCheck 20 (checkIn .operator 0 5 .settling (some { runOf none none with waiting := true })) poweredStation)) (fun t =>
      decide (t.prs.slot.map (·.holder) = some (some 20)) && decide (t.prs.closedTag = some 15)) = true := by decide +kernel

/-- The own PROMPT_REQ of the request on the line. -/
def asking (kind : PromptKind) (d : Nat) : State :=
  withSlot .promptReq (.inFlight (.promptReq kind true 255 15 d) 0 none false) (withPrompt (held kind none) station)

theorem test_witness_requests :
    ownIdx (asking .judge 0) = some 1 ∧ slotPasses (asking .judge 0) ∧ (asking .judge 0).prs.slot = some (held .judge none) ∧
    (asking .judge 0).rbc.onLine = some .promptReq ∧
    (asking .notice 30).rbc.slot .promptReq = .inFlight (.promptReq .notice true 255 15 30) 0 none false ∧
    (held .notice none).message < 256 ∧ ((11 : StationIdx) ≠ 1) ∧
    ((withPeer 11 (withPrompt (held .judge (some 5)) station)).rbc.peers[(11 : StationIdx)]).present = true ∧
    (held .judge (some 5)).answer.isSome = true ∧ (held .judge (some 5)).answer = some 5 := by
  unfold slotPasses; decide +kernel
theorem test_witness_requests_of_a_check :
    configured crowded = true ∧ ownIdx crowded = some 1 ∧ slotPasses crowded ∧ lendLaw crowded = true ∧ startsPlainly crowded 4 ∧
    ((withPeer 11 crowded).rbc.peers[(11 : StationIdx)]).present = true ∧
    crowded.prs.slot.map (fun p => (p.holder, p.kind, p.tag, p.answer)) = some (some 42, .judge, 3, some 5) ∧
    (crowded.cke.checks[(42 : CheckIdx)]).state = .opened ∧ (crowded.cke.checks[(42 : CheckIdx)]).defn.kind = .operator ∧
    (crowded.cke.checks[(42 : CheckIdx)]).run.isSome = true := by
  unfold slotPasses startsPlainly settlesPlainly; decide +kernel
theorem test_answer_ends_the_check : did (.promptAnswerAccepted 11 (Payload.promptAnswer 1 3 .fail).bytes)
    (withPeer 11 crowded) (fun t => decide ((t.cke.checks[(42 : CheckIdx)]).state = .done) && decide (t.prs.slot = none) &&
      decide (t.cke.record.map (fun e => e.result.verdict) = [.fail])) = true := by decide +kernel
theorem test_no_cancel_for_a_waiting_prompt_at_halt : did (.haltAccepted 11) (withPeer 11 crowded) (fun t =>
    decide (t.prs.slot = none) && decide (t.rbc.slot .promptCancel = .empty) &&
      decide ((t.cke.checks[(42 : CheckIdx)]).state = .aborted)) = true := by decide +kernel
theorem test_witness_panel_queue :
    configured (withPeer 11 laden) = true ∧ (withPeer 11 laden).cml.strapPanel = true ∧ (withPeer 11 laden).prs.role = true ∧
    ((withPeer 11 laden).rbc.peers[(11 : StationIdx)]).present = true ∧ ownIdx (withPeer 11 laden) ≠ some 11 ∧
    (∀ x ∈ (withPeer 11 laden).prs.queue, x.station ≠ 11) ∧
    [queued 4 .notice false 1 (some 0)].find? (fun x => decide (x.station = 4)) = some (queued 4 .notice false 1 (some 0)) ∧
    (queued 4 .notice false 1 (some 0)).notice = some 0 ∧
    { laden.prs with keySettle := some 5000000 }.keySettle = some 5000000 := by decide +kernel
theorem test_witness_panel_beacons :
    let b (role : Bool) : Beacon := { ownBeacon station with panelRole := role, haltInput := false }
    payloadInCode (.beacon (b true)) = true ∧ payloadInCode (.beacon (b false)) = true ∧
    (b true).haltInput = (withPeer 0 laden).hfu.sources[(0 : StationIdx)] ∧ ownIdx (withPeer 0 laden) = some 1 ∧
    ownIdx (withPeer 0 laden) ≠ some 0 ∧ ((0 : StationIdx) < 1) ∧
    ((withPeer 0 laden).rbc.peers[(0 : StationIdx)]).present = true ∧ (withPeer 0 station).cml.events = [] := by decide +kernel
/-- The panel with the three kinds of entry, each queued before the frames that change it. -/
def queueing : State :=
  { withPeer 11 (withPeer 4 laden) with prs := { laden.prs with
      queue := [queued 2 .judge true 0 none, queued 4 .notice false 1 (some 9), queued 0 .action false 15 none]
      board := vset laden.prs.board 4
        (some { serial := 7, verdict := .fail, counts := none, fromResult := false, stale := true }) } }

theorem test_witness_panel_replacements :
    configured queueing = true ∧ queueing.prs.role = true ∧ ownIdx queueing = some 1 ∧
    (queueing.rbc.peers[(4 : StationIdx)]).present = true ∧
    queueing.prs.queue = [queued 2 .judge true 0 none] ++ queued 4 .notice false 1 (some 9) :: [queued 0 .action false 15 none] ∧
    (∀ y ∈ [queued 2 .judge true 0 none] ++ [queued 0 .action false 15 none], y.station ≠ 4) ∧
    (queueing.prs.board[(4 : StationIdx)]).map (·.serial) = some 7 ∧ queueing.prs.board[(11 : StationIdx)] = none := by
  decide +kernel
theorem test_request_replaces_the_entry :
    did (.promptReqAccepted 4 (Payload.promptReq .judge false 255 3 0).bytes) queueing (fun t =>
      decide (t.prs.queue.map (fun x => (x.station, x.tag, x.notice)) = [(2, 0, none), (4, 3, none), (0, 15, none)])) = true ∧
    did (.promptReqAccepted 4 (Payload.promptReq .notice true 255 3 30).bytes) queueing (fun t =>
      decide (t.prs.queue.map (fun x => (x.station, x.tag, x.notice)) = [(2, 0, none), (4, 3, none), (0, 15, none)])) = true ∧
    did (.promptAnswerAccepted 11 (Payload.promptAnswer 0 15 .ok).bytes) queueing (fun t =>
      decide (t.prs.queue.map (·.station) = [2, 4])) = true ∧
    did (.promptAnswerAccepted 11 (Payload.promptAnswer 0 14 .ok).bytes) queueing (fun t =>
      decide (t.prs.queue.map (·.station) = [2, 4, 0])) = true := by decide +kernel
theorem test_witness_own_answer_and_show :
    let waiting := withPrompt (held .judge (some 5)) (withPeer 11 station)
    heardFrom (flying (.promptAnswer 1 15 .pass) waiting) 1 (.promptAnswer 1 15 .pass) ∧
    heardFrom (flying (.promptShow (some (1, 15))) waiting) 1 (.promptShow (some (1, 15))) ∧
    heardFrom waiting 11 (.promptAnswer 1 15 .pass) ∧
    did (.promptAnswerAccepted 1 (Payload.promptAnswer 1 15 .pass).bytes) (flying (.promptAnswer 1 15 .pass) waiting)
      (fun t => decide (t.prs.slot = none) && decide (t.cml.events.map (·.event) = [.promptAnswered 15 255 .pass])) = true ∧
    did (.promptShowAccepted 1 (Payload.promptShow (some (1, 15))).bytes) (flying (.promptShow (some (1, 15))) waiting)
      (fun t => decide (t.prs.slot.map (·.shown) = some true)) = true :=
  ⟨own_heard (by decide +kernel) (by decide +kernel) (by decide +kernel),
    own_heard (by decide +kernel) (by decide +kernel) (by decide +kernel), .inl (by decide +kernel), by decide +kernel,
    by decide +kernel⟩
/-- The panel station's own frames that change its queue or its board. -/
def ownResult : Payload := .result 255 .fail { pass := 48, marginal := 0, fail := 0, invalid := 0, aborted := 0 }

theorem test_witness_own_frames_of_the_panel :
    heardFrom (flying (.promptReq .judge true 255 15 0) queueing) 1 (.promptReq .judge true 255 15 0) ∧
    heardFrom (flying (.promptReq .notice false 255 15 30) queueing) 1 (.promptReq .notice false 255 15 30) ∧
    heardFrom (flying (.promptCancel 15) queueing) 1 (.promptCancel 15) ∧ heardFrom (flying ownResult queueing) 1 ownResult ∧
    heardFrom (flying (.promptAnswer 0 15 .ok) queueing) 1 (.promptAnswer 0 15 .ok) ∧
    heardFrom queueing 11 (.promptCancel 15) ∧ firstWaiting queueing asksOperator = none :=
  ⟨own_heard (by decide +kernel) (by decide +kernel) (by decide +kernel),
    own_heard (by decide +kernel) (by decide +kernel) (by decide +kernel),
    own_heard (by decide +kernel) (by decide +kernel) (by decide +kernel),
    own_heard (by decide +kernel) (by decide +kernel) (by decide +kernel),
    own_heard (by decide +kernel) (by decide +kernel) (by decide +kernel), .inl (by decide +kernel), by decide +kernel⟩
theorem test_own_frames_reach_the_panel :
    did (.promptReqAccepted 1 (Payload.promptReq .judge true 255 15 0).bytes) (flying (.promptReq .judge true 255 15 0) queueing)
      (fun t => decide (t.prs.queue.map (·.station) = [2, 1, 4, 0])) = true ∧
    did (.resultAccepted 1 ownResult.bytes) (flying ownResult queueing)
      (fun t => decide ((t.prs.board[(1 : StationIdx)]).map (·.serial) = some 255)) = true := by decide +kernel
theorem test_another_request_leaves_the_slot :
    did (.promptReqAccepted 1 (Payload.promptReq .judge true 255 15 0).bytes)
      (flying (.promptReq .judge true 255 15 0) (withPrompt (held .notice none) queueing))
      (fun t => decide (t.prs.slot = some (held .notice none)) && decide (t.prs.queue.any (fun x => x.station = 1))) = true := by
  decide +kernel
theorem test_beacon_fills_the_board :
    let b (serial : Nat) : Beacon :=
      { ownBeacon station with panelRole := false, haltInput := false, serial := serial, verdict := some .pass }
    let entry (i : StationIdx) (n : Nat) (c : Instr) : Bool := did c queueing (fun t =>
      decide (t.prs.board[i] = some { serial := n, verdict := .pass, counts := none, fromResult := false, stale := false }))
    payloadInCode (.beacon (b 255)) = true ∧ entry 4 8 (.beaconAccepted 4 (b 8).bytes) = true ∧
    entry 11 0 (.beaconAccepted 11 (b 0).bytes) = true ∧
    did (.beaconAccepted 4 (b 7).bytes) queueing (fun t =>
      decide (t.prs.board[(4 : StationIdx)] = queueing.prs.board[(4 : StationIdx)])) = true := by decide +kernel
theorem test_lower_panel_takes_the_role :
    did (.beaconAccepted 0 { ownBeacon station with panelRole := true, haltInput := false }.bytes) (withPeer 0 laden) (fun t =>
      !t.prs.role && decide (t.prs.queue = [])) = true := by decide +kernel

/-! ### The rack bus -/

theorem test_witness_requests_to_the_bus :
    station.rbc.tx ≠ .offClash ∧ station.rbc.tx ≠ .offStrap ∧ (Payload.haltClear true).kind = .haltClear ∧
    (Payload.promptAnswer 11 15 .ok).kind = .promptAnswer ∧ station.rbc.slot .promptAnswer = .empty ∧
    (withSlot .promptAnswer (.pending (.promptAnswer 0 0 .ok) 0) station).rbc.slot .promptAnswer ≠ .empty ∧
    (Payload.promptReq .judge true 1 15 0).reqTag = some 15 ∧ (claiming 20).rbc.slot .slotClaim ≠ .empty := by decide +kernel

/-- A beacon waits on an idle bus. -/
def sending : State :=
  let s := withSlot .beacon (.pending .beaconDue 0) station
  { s with rbc := { s.rbc with bus := .idle } }

theorem test_witness_transmission :
    ownIdx sending = some 1 ∧ sending.rbc.slot .beacon = .pending .beaconDue 0 ∧
    (∀ j : FrameKind, j.code < FrameKind.beacon.code → ∀ q b, sending.rbc.slot j ≠ .pending q b) ∧ sending.rbc.tx = .on ∧
    sending.rbc.bus = .idle ∧ sending.rbc.onLine = none ∧ sending.rbc.idleCount < 56 := by
  refine ⟨by decide +kernel, by decide +kernel, fun j h q b => ?_, by decide, by decide, by decide +kernel, by decide +kernel⟩
  have e : sending.rbc.slot j = .empty := by
    revert h; cases j <;> decide +kernel
  rw [e]; simp
theorem test_frame_waits_for_its_position : did .transmitStart sending (fun t =>
    decide (t.rcu.timebase.toNat = (8 + 12 * 2 + 1) * 40) && decide (t.rbc.bus = .busy)) = true ∧
    did .transmitStart { sending with rbc := { sending.rbc with idleCount := 34 } } (fun t =>
      decide (t.rcu.timebase.toNat = (8 + 12 * 2 + 1 + 56 - 34) * 40)) = true := by decide +kernel
theorem test_assembled_beacon :
    let b := beaconAsked (withPrompt (held .judge (some 5)) laden)
    (b.reported, b.slotState, b.remaining, b.tInrush, b.sMax) = (.nest .powered, .granted, 0, 200, 2) ∧
    (b.prompt, b.message, b.tag) = (some (.judge, true), 255, 15) ∧
    ((beaconAsked laden).prompt, (beaconAsked laden).message, (beaconAsked laden).tag) = (none, 0, 0) ∧
    (beaconAsked haltedStation).reported = .halted ∧ (beaconAsked haltedStation).haltInput = true := by decide +kernel
theorem test_witness_veto :
    (claiming 20).rbc.onLine = some .slotClaim ∧
    (claiming 20).rbc.slot .slotClaim = .inFlight (.slotClaim 20) 7 none false ∧ 7 ≤ 7 ∧
    FrameKind.slotClaim.cls ≠ 2 ∧ FrameKind.result.cls = 2 ∧ ready (claiming 20) ∧
    (withSlot .result (.inFlight (.result 1 .pass { pass := 0, marginal := 0, fail := 0, invalid := 0, aborted := 0 }) 6 none true)
      station).rbc.onLine = some .result := by
  unfold ready; decide +kernel
theorem test_witness_halt_overtaken :
    let s := withSlot .haltClear (.pending (.haltClear false) 0) (withSlot .halt (.inFlight .halt 0 none false) station)
    s.rbc.onLine = some .halt ∧ s.rbc.slot .haltClear ≠ .empty := by decide +kernel
theorem test_veto_is_driven_on_a_bad_frame :
    let sound := driveFrame 3 (.slotClaim 200)
    did (.frameVetoed sound) station (fun t => !t.rbc.veto) = true ∧
    did (.frameVetoed { sound with crc := sound.crc ^^^ 1 }) station (fun t => t.rbc.veto) = true ∧
    did (.frameVetoed { sound with crc := sound.crc ^^^ 1 }) State.reset (fun t => !t.rbc.veto) = true := by decide +kernel
theorem test_misread_own_bit_is_vetoed :
    let sound := driveFrame 1 (.slotClaim 200)
    let s := { claiming 200 with rbc := { (claiming 200).rbc with driven := some (frameLineBits sound) } }
    let read := { sound with payload := [0, 192] }
    did (.frameVetoed { read with crc := rackCrc (rackBits read.header read.payload) }) s (fun t => t.rbc.veto) = true ∧
    did (.frameVetoed sound) s (fun t => !t.rbc.veto) = true := by decide +kernel
theorem test_eighth_veto_abandons : did .frameVetoed (claiming 20) (fun t =>
    decide (t.hfu.mode = .fault) && decide (t.rbc.slot .slotClaim = .empty)) = true := by decide +kernel

/-- A peer's beacon with its halt input inactive. -/
def heardBeacon : Beacon := { ownBeacon station with sMax := 1, slotState := .waiting }

theorem test_witness_peers :
    configured station = true ∧ ownIdx station = some 1 ∧ station.rbc.tx = .on ∧ station.hfu.mode = .normal ∧
    ownIdx station ≠ some 0 ∧ payloadInCode (.beacon heardBeacon) = true ∧
    ((withPeer 11 station).rbc.peers[(11 : StationIdx)]).silence = some 3000000 ∧
    ({ station.rbc with tx := .listening, listenTimer := some 0 } : Rbc).listenTimer = some 0 ∧
    ({ station.prs with role := false } : Prs).role = false ∧
    ({ station.rbc with beaconTimer := some 0 } : Rbc).beaconTimer = some 0 ∧ station.cml.events = [] := by decide +kernel
theorem test_witness_listen_timer_of_a_panel :
    let s := { laden with rbc := { laden.rbc with
      tx := .listening, listenTimer := some 2500000
      peers := vset laden.rbc.peers 11 { present := true, beacon := some { heardBeacon with prompt := some (.judge, false) }
                                         silence := some 3000000 } } }
    configured s = true ∧ s.rbc.tx = .listening ∧ s.prs.role = true ∧ queueOk s.prs.queue = true ∧
    did .listenTimerExpiry s (fun t => decide (t.prs.queue.map (·.station) = [2, 0, 11]) && decide (t.rbc.tx = .on)) = true := by
  decide +kernel

/-! ### CONFIGURE -/

/-- Every parameter present, S_MAX above its range; and nothing present. -/
def configBytes (m0 m1 : Byte) : List Byte :=
  [m0, m1, 5, 200, 0, 100, 0, 50, 0, 3, 0xB8, 0x0B, 10, 120, 0, 0, 0, 0xF4, 1]

theorem test_witness_configure :
    configured State.reset = false ∧ State.reset.hfu.mode = .normal ∧ noChecks State.reset ∧ State.reset.prs.slot = none ∧
    (configBytes 255 3).length = 19 ∧ State.reset.rbc.tx = .unconfigured ∧
    (givenParam (configBytes 255 3) 2 && givenParam (configBytes 255 3) 3 && givenParam (configBytes 255 3) 4 &&
      givenParam (configBytes 255 3) 8 && givenParam (configBytes 255 3) 9) = true ∧
    givenParam (configBytes 0 0) 2 = false := by
  unfold noChecks; decide +kernel
theorem test_configure_clamps : did (.configure (params (configBytes 255 3))) State.reset (fun t =>
    decide (t.cml.config.map (·.sMax) = some 4) && decide (t.cml.response.map (·.status) = some .okAdjusted) &&
      decide (t.rbc.tx = .listening)) = true := by decide +kernel
theorem test_configure_needs_its_parameters : did (.configure (params (configBytes 0 0))) State.reset (fun t =>
    decide (t.cml.config = none) && decide (t.cml.response.map (·.status) = some .range)) = true := by decide +kernel

end Sys2Proof.Tests
end

section
/-! SUPPORT. The nest commands (chapter 2): what a command write leaves is what `answersAs` says, and what CLAMP and UNCLAMP do. -/

namespace Sys2Proof.Machine

variable {s t : State} {code : Nat} {allowed : Nat → Bool} {test : ConfigTest} {gate : Gate} {p : Params}
  {owner : List Byte → State → State × Reply}

/-! ### Answers of a command write (R172 to R174) -/

/-- `t` as it stands where the link status byte of `s` has been shifted out (R172). -/
def shiftedFrom (s t : State) : State := t.withCml { t.cml with miso := [linkStatus s.cml] }

theorem shiftStatus_eq_shiftedFrom (s : State) : shiftStatus s = shiftedFrom s s := rfl

/-- A response placed on a state that stands at the command sequence of `s` is the answer to a command that `s` met. -/
theorem answersAs_placeResponse (r : Reply) (hseq : t.cml.cmdSeq = s.cml.cmdSeq) :
    answersAs (.next (placeResponse (BitVec.ofNat 8 code) r (shiftedFrom s t))) code r.status r.data s t := by
  refine ⟨_, [linkStatus s.cml], rfl, rfl, ?_⟩
  simp [placeResponse, shiftedFrom, answered, State.withCml, hseq]

/-- A refusal by tests 2 to 4 of R173 changes nothing but the response. -/
theorem linkCommand_answersAs_refusal {st : Status} (h : linkRefusal allowed test gate p s = some st) :
    answersAs (.next (linkCommand code allowed test gate p owner s)) code st [] s s := by
  rw [linkCommand_refused h, shiftStatus_eq_shiftedFrom]
  exact answersAs_placeResponse (refuse st) rfl

/-- A command that passes the tests is answered by its owner, which leaves `t`. -/
theorem linkCommand_answersAs_owner {r : Reply} (h : linkRefusal allowed test gate p s = none)
    (howner : owner p.bytes (shiftStatus s) = (shiftedFrom s t, r)) (hseq : t.cml.cmdSeq = s.cml.cmdSeq) :
    answersAs (.next (linkCommand code allowed test gate p owner s)) code r.status r.data s t := by
  rw [linkCommand_taken h, howner]
  exact answersAs_placeResponse r hseq

/-! ### Clamp commands (R25, R27, R29) -/

/-- A started motion energizes the coil of its direction (2.3, 2.4). -/
theorem movingTo_startMotion (d : Direction) (n : NestState) (s : State) :
    movingTo d (startMotion d n s).ncu = true := by
  simp [movingTo, startMotion]

/-- The nest states and the clamp-open level of R27. -/
theorem unclampTaken_iff (n : Ncu) : unclampTaken n = true ↔
    n.nest = .clamped ∨ ((n.nest = .empty ∨ n.nest = .seated) ∧ n.clampOpen.level = false) := by
  cases h : n.nest <;> simp [unclampTaken, NestState.loose, h]

/-- Tests 2 to 4 of R173 for a command without parameters that passes in NORMAL and HALTED, on a configured station. -/
theorem linkRefusal_normalHalted (hc : configured s = true) :
    linkRefusal (exactly 0) .needed .normalHalted (params []) s =
      if s.hfu.mode = .normal ∨ s.hfu.mode = .halted then none else some .wrongState := by
  cases h : s.hfu.mode <;> simp [linkRefusal, params, exactly, ConfigTest.refusal, Gate.passes, hc, h]

/-- An owner that takes its command in NORMAL in the nests `taken`, by starting a motion, and refuses it with WRONG_STATE elsewhere. -/
structure StartsMotion (taken : Ncu → Prop) (d : Direction) (n : NestState)
    (owner : List Byte → State → State × Reply) : Prop where
  starts  : ∀ bs u, u.hfu.mode = .normal ∧ taken u.ncu → owner bs u = (startMotion d n u, okReply)
  refuses : ∀ bs u, ¬(u.hfu.mode = .normal ∧ taken u.ncu) → owner bs u = refused .wrongState u

theorem ownClamp_startsMotion : StartsMotion (fun n => n.nest = .seated) .closing .clamping ownClamp where
  starts _ _ h := if_pos h
  refuses _ _ h := if_neg h

theorem ownUnclamp_startsMotion : StartsMotion
    (fun n => n.nest = .clamped ∨ ((n.nest = .empty ∨ n.nest = .seated) ∧ n.clampOpen.level = false))
    .opening .unclamping ownUnclamp where
  starts _ _ h := if_pos (by rwa [unclampTaken_iff])
  refuses _ _ h := if_neg (by rwa [unclampTaken_iff])

section
variable {taken : Ncu → Prop} {d : Direction} {n : NestState} (howner : StartsMotion taken d n owner)
  (hc : configured s = true)
include howner hc

/-- In NORMAL and a nest that its rule names, the command starts its motion and answers OK. -/
theorem motionCommand_taken (h : s.hfu.mode = .normal ∧ taken s.ncu) :
    answersAs (.next (linkCommand code (exactly 0) .needed .normalHalted (params []) owner s)) code .ok [] s
      (startMotion d n s) := by
  have htests := linkRefusal_normalHalted hc
  rw [if_pos (.inl h.1)] at htests
  exact linkCommand_answersAs_owner (r := okReply) htests (howner.starts _ (shiftStatus s) h) rfl

/-- Elsewhere it is refused with WRONG_STATE: by the NCU where the link passes the mode, by the link in FAULT and LOCKOUT. -/
theorem motionCommand_refused (h : ¬(s.hfu.mode = .normal ∧ taken s.ncu)) :
    answersAs (.next (linkCommand code (exactly 0) .needed .normalHalted (params []) owner s)) code .wrongState [] s s := by
  have htests := linkRefusal_normalHalted hc
  split at htests
  · exact linkCommand_answersAs_owner (r := refuse .wrongState) htests (howner.refuses _ (shiftStatus s) h) rfl
  · exact linkCommand_answersAs_refusal htests

end

theorem exec_clamp (p : Params) (s : State) :
    exec (.clamp p) s = .next (linkCommand 6 (exactly 0) .needed .normalHalted p ownClamp s) := rfl

theorem exec_unclamp (p : Params) (s : State) :
    exec (.unclamp p) s = .next (linkCommand 7 (exactly 0) .needed .normalHalted p ownUnclamp s) := rfl

/-- Settles O20: the owner of each command starts its motion exactly on the conditions of R25 and R27. -/
theorem clampAndUnclamp : Obligations.ClampAndUnclamp := by
  intro s hc
  refine ⟨fun d n => movingTo_startMotion d n s, ?_, ?_⟩
  · rw [exec_clamp]
    split
    · next h => exact motionCommand_taken ownClamp_startsMotion hc h
    · next h => exact motionCommand_refused ownClamp_startsMotion hc h
  · rw [exec_unclamp]
    split
    · next h => exact motionCommand_taken ownUnclamp_startsMotion hc h
    · next h => exact motionCommand_refused ownUnclamp_startsMotion hc h

end Sys2Proof.Machine
end

section
/-! SUPPORT. The results of the checks (7.5): CLEAR_RESULTS and PUBLISH_RESULT, by what their owners leave and answer. -/

namespace Sys2Proof.Machine

variable {s t : State} {code : Nat} {owner : List Byte → State → State × Reply}

/-! ### Commands without parameters that pass in NORMAL and HALTED (R173) -/

/-- In FAULT and LOCKOUT the link refuses the command before its owner. -/
theorem normalHaltedCommand_refused (hc : configured s = true) (hm : s.hfu.mode = .fault ∨ s.hfu.mode = .lockout) :
    answersAs (.next (linkCommand code (exactly 0) .needed .normalHalted (params []) owner s)) code .wrongState [] s s := by
  have htests := linkRefusal_normalHalted hc
  have hmode : ¬(s.hfu.mode = .normal ∨ s.hfu.mode = .halted) := by
    obtain h | h := hm <;> simp [h]
  rw [if_neg hmode] at htests
  exact linkCommand_answersAs_refusal htests

/-- In NORMAL and HALTED the owner answers, and its new state `t` is the one the command leaves. -/
theorem normalHaltedCommand_taken {r : Reply} (hc : configured s = true)
    (hm : s.hfu.mode = .normal ∨ s.hfu.mode = .halted) (howner : owner [] (shiftStatus s) = (shiftedFrom s t, r))
    (hseq : t.cml.cmdSeq = s.cml.cmdSeq) :
    answersAs (.next (linkCommand code (exactly 0) .needed .normalHalted (params []) owner s)) code r.status r.data s t := by
  have htests := linkRefusal_normalHalted hc
  rw [if_pos hm] at htests
  exact linkCommand_answersAs_owner htests howner hseq

/-! ### CLEAR_RESULTS (R134) -/

theorem CheckState.isEnded_iff (c : CheckState) : c.isEnded = true ↔ c = .done ∨ c = .aborted := by
  cases c <;> simp [CheckState.isEnded]

@[simp] theorem vmap_getElem {α β : Type} {n : Nat} (f : α → β) (v : Vector α n) (i : Nat) (h : i < n) :
    (vmap f v)[i] = f v[i] := by
  simp [vmap]

theorem exec_clearResults (p : Params) (s : State) :
    exec (.clearResults p) s = .next (linkCommand 19 (exactly 0) .needed .normalHalted p ownClearResults s) := rfl

/-- The link status byte reaches neither what CLEAR_RESULTS clears nor what it answers. -/
theorem ownClearResults_shiftStatus (bs : List Byte) (s : State) :
    ownClearResults bs (shiftStatus s) =
      (shiftedFrom s (ownClearResults bs s).1, okWith [BitVec.ofNat 8 s.cke.record.length]) := rfl

/-- Outside the checks, CLEAR_RESULTS empties the test record alone. -/
theorem ownClearResults_frame (bs : List Byte) (s : State) : (ownClearResults bs s).1 =
    { s with cke := { s.cke with record := [], checks := (ownClearResults bs s).1.cke.checks } } := rfl

/-- A check that has ended returns to IDLE; every other check stays as it is. -/
theorem ownClearResults_check (bs : List Byte) (s : State) (i : CheckIdx) :
    (ownClearResults bs s).1.cke.checks[i] =
      if (s.cke.checks[i]).state = .done ∨ (s.cke.checks[i]).state = .aborted then
        { s.cke.checks[i] with state := .idle } else s.cke.checks[i] := by
  simp [ownClearResults, State.withCke, CheckState.isEnded_iff]

/-! ### PUBLISH_RESULT (R135) -/

/-- The number of entries of a test record that hold the verdict `v`. -/
def verdictCount (r : List RecordEntry) (v : Verdict) : Nat := r.countP (fun e => decide (e.result.verdict = v))

theorem countVerdicts_eq (r : List RecordEntry) : countVerdicts r =
    { pass := verdictCount r .pass, marginal := verdictCount r .marginal, fail := verdictCount r .fail
      invalid := verdictCount r .invalid, aborted := verdictCount r .aborted } := by
  simp only [countVerdicts, verdictCount, List.countP_eq_length_filter]

/-- The precedence of R135: FAIL, INCOMPLETE, MARGINAL, PASS, and INCOMPLETE where nothing is counted. -/
theorem stationVerdict_eq (c : Counts) : stationVerdict c =
    if c.fail ≠ 0 then .fail else if c.invalid ≠ 0 ∨ c.aborted ≠ 0 then .incomplete
    else if c.marginal ≠ 0 then .marginal else if c.pass ≠ 0 then .pass else .incomplete := by
  simp only [stationVerdict, Nat.pos_iff_ne_zero]

/-- The state after a RESULT with these counts has been published: the verdict and the next serial are stored, and the frame that carries them is queued. -/
def published (c : Counts) (v : StationVerdict) (s : State) : State :=
  let serial := (s.cke.serial + 1) % 256
  { s with cke := { s.cke with verdict := some v, serial := serial }, rbc := (s.rbc.request (.result serial v c)).1 }

theorem exec_publishResult (p : Params) (s : State) :
    exec (.publishResult p) s = .next (linkCommand 20 (exactly 0) .needed .normalHalted p ownPublish s) := rfl

/-- PUBLISH_RESULT publishes the counts of the test record with their verdict, and answers the same figures, each in one byte. -/
theorem ownPublish_shiftStatus {c : Counts} {v : StationVerdict} (bs : List Byte)
    (hcounts : countVerdicts s.cke.record = c) (hverdict : stationVerdict c = v) :
    ownPublish bs (shiftStatus s) =
      (shiftedFrom s (published c v s),
        okWith ([(s.cke.serial + 1) % 256, v.code, c.pass, c.marginal, c.fail, c.invalid, c.aborted].map
          (BitVec.ofNat 8))) := by
  subst hcounts hverdict
  rfl

/-- Settles O49: the link refuses both commands in FAULT and LOCKOUT, and elsewhere their owners clear and publish. -/
theorem resultsAreClearedAndPublished : Obligations.ResultsAreClearedAndPublished := by
  refine ⟨fun s hc hm => ?_, fun s hc hm => ⟨?_, ?_⟩⟩
  · rw [exec_clearResults, exec_publishResult]
    exact ⟨normalHaltedCommand_refused hc hm, normalHaltedCommand_refused hc hm⟩
  · rw [exec_clearResults]
    exact ⟨(ownClearResults [] s).1, normalHaltedCommand_taken hc hm (ownClearResults_shiftStatus [] s) rfl,
      ownClearResults_frame [] s, ownClearResults_check [] s⟩
  · rw [exec_publishResult]
    exact normalHaltedCommand_taken hc hm
      (ownPublish_shiftStatus [] (countVerdicts_eq s.cke.record) (stationVerdict_eq _)) rfl

end Sys2Proof.Machine
end

section
/-! SUPPORT. The command sequence value (R173, R174) under the operations: only placing a response advances it. One lemma per operation that reaches the command link's unit. -/

namespace Sys2Proof.Machine

variable (s : State)

/-! ### Operations that post events or move the table cursor -/

@[simp] theorem post_cmdSeq (e : Event) : (post e s).cml.cmdSeq = s.cml.cmdSeq := rfl

@[simp] theorem setCursor_cmdSeq (t : Table) (i : Nat) : (setCursor t i s).cml.cmdSeq = s.cml.cmdSeq := rfl

@[simp] theorem recomputeSEff_cmdSeq : (recomputeSEff s).cml.cmdSeq = s.cml.cmdSeq := by
  simp only [recomputeSEff]
  repeat' split
  all_goals simp

@[simp] theorem stopMotion_cmdSeq (f : State → State) (h : ∀ t, (f t).cml.cmdSeq = t.cml.cmdSeq) :
    (stopMotion f s).cml.cmdSeq = s.cml.cmdSeq := by
  unfold stopMotion
  split <;> simp [h]

@[simp] theorem postRequested_cmdSeq (e : Rail → Event) : (postRequested e s).cml.cmdSeq = s.cml.cmdSeq := by
  unfold postRequested
  split <;> simp

@[simp] theorem makeClaim_cmdSeq : (makeClaim s).cml.cmdSeq = s.cml.cmdSeq := rfl

/-! ### The check evaluator -/

@[simp] theorem endDone_cmdSeq (i : CheckIdx) (f : Flags) : (endDone i f s).1.cml.cmdSeq = s.cml.cmdSeq := by
  simp [endDone]

@[simp] theorem slotToFirst_cmdSeq : (slotToFirst s).1.cml.cmdSeq = s.cml.cmdSeq := by
  simp only [slotToFirst]
  repeat' split
  all_goals simp

@[simp] theorem stepWork_cmdSeq (w : Work) : (stepWork w s).1.cml.cmdSeq = s.cml.cmdSeq := by
  cases w <;> simp [stepWork]

@[simp] theorem settleWork_cmdSeq (x : State × List Work) : (settleWork x).cml.cmdSeq = x.1.cml.cmdSeq :=
  runWork_keeps (·.cml.cmdSeq) (fun w t => stepWork_cmdSeq t w) 512 x.2 x.1

@[simp] theorem abortSet_cmdSeq (c : AbortCause) (p : CheckIdx → Check → Bool) :
    (abortSet c p s).cml.cmdSeq = s.cml.cmdSeq := by
  simp [abortSet]

@[simp] theorem disturb_cmdSeq (i : CheckIdx) : (disturb i s).1.cml.cmdSeq = s.cml.cmdSeq := by
  simp only [disturb]
  split <;> simp

/-- A fold over any state type keeps what each of its steps keeps. -/
theorem foldl_reads_same {σ α β : Type} (f : σ → α) (g : σ → β → σ) (h : ∀ x b, f (g x b) = f x) (x : σ) (bs : List β) :
    f (bs.foldl g x) = f x := by
  rw [← List.foldl_hom f (g₂ := fun a _ => a) fun x b => (h x b).symm, List.foldl_fixed]

/-- What is marked for another settling, and then disturbed, keeps the command sequence check by check. -/
@[simp] theorem applyEvent_cmdSeq : (applyEvent s).cml.cmdSeq = s.cml.cmdSeq := by
  simp only [applyEvent, settleWork_cmdSeq]
  rw [foldl_reads_same (fun x : State × List Work => x.1.cml.cmdSeq)]
  · exact foldl_keeps (·.cml.cmdSeq) _ (fun t i => by simp) _ s
  · intro x i
    split
    · rfl
    · split <;> simp

/-! ### Halt entry and CONFIGURE -/

@[simp] theorem haltEntry_cmdSeq : (haltEntry s).cml.cmdSeq = s.cml.cmdSeq := by
  simp [haltEntry, abortAll]

@[simp] theorem configureHalt_cmdSeq : (configureHalt s).cml.cmdSeq = s.cml.cmdSeq := by
  simp only [configureHalt]
  repeat' split
  all_goals simp

@[simp] theorem configureBus_cmdSeq : (configureBus s).cml.cmdSeq = s.cml.cmdSeq := by
  simp [configureBus]

@[simp] theorem configureAll_cmdSeq (c : StationConfig) : (configureAll c s).cml.cmdSeq = s.cml.cmdSeq := by
  simp [configureAll, configurePrompts, configureChecks, configureSupply]

/-! ### The stimulus -/

@[simp] theorem applyChannel_cmdSeq (i : ChannelIdx) (u : ChannelUpdate) :
    (applyChannel i u s).cml.cmdSeq = s.cml.cmdSeq := by
  simp only [applyChannel]
  split <;> simp

@[simp] theorem applyDiscretes_cmdSeq (u : DiscreteUpdate) : (applyDiscretes u s).cml.cmdSeq = s.cml.cmdSeq := by
  simp only [applyDiscretes]
  split <;> simp

@[simp] theorem placeChannel_cmdSeq (i : ChannelIdx) (t : Timing) (u : ChannelUpdate) :
    (placeChannel i t u s).cml.cmdSeq = s.cml.cmdSeq := by
  cases t <;> simp [placeChannel]

@[simp] theorem placeDiscretes_cmdSeq (t : Timing) (u : DiscreteUpdate) :
    (placeDiscretes t u s).cml.cmdSeq = s.cml.cmdSeq := by
  cases t <;> simp [placeDiscretes]

/-! ### The supply -/

@[simp] theorem powerDown_cmdSeq : (powerDown s).cml.cmdSeq = s.cml.cmdSeq := by
  simp only [powerDown]
  split <;> simp [abortAll]

@[simp] theorem startSwitchOver_cmdSeq (r : Rail) : (startSwitchOver r s).cml.cmdSeq = s.cml.cmdSeq := by
  simp [startSwitchOver]

/-! ### The steps of FAULT_RESUME (R166) -/

@[simp] theorem resumeNest_cmdSeq : (resumeNest s).cml.cmdSeq = s.cml.cmdSeq := by
  unfold resumeNest
  split <;> simp

@[simp] theorem resumeSupply_cmdSeq : (resumeSupply s).cml.cmdSeq = s.cml.cmdSeq := by
  simp only [resumeSupply]
  repeat' split
  all_goals simp [dropOwnClaim]

@[simp] theorem resumeCounter_cmdSeq : (resumeCounter s).cml.cmdSeq = s.cml.cmdSeq := by
  unfold resumeCounter
  split <;> simp

@[simp] theorem resumePort_cmdSeq : (resumePort s).cml.cmdSeq = s.cml.cmdSeq := by
  unfold resumePort
  repeat' split
  all_goals simp [portRestart]

@[simp] theorem resumeChecks_cmdSeq : (resumeChecks s).cml.cmdSeq = s.cml.cmdSeq := by
  simp [resumeChecks]

/-! ### Record writes (R176) -/

@[simp] theorem storeRecord_cmdSeq (t : Table) (i : Nat) (bs : List Byte) :
    (storeRecord t i bs s).1.cml.cmdSeq = s.cml.cmdSeq := by
  cases t with
  | checks =>
    simp only [storeRecord, storeCheck]
    repeat' split
    all_goals simp
  | txSlots =>
    simp only [storeRecord, storeTxSlot, setVnSlot]
    repeat' split
    all_goals simp
  | rxFilters =>
    simp only [storeRecord, storeRxFilter]
    repeat' split
    all_goals simp
  | messages =>
    simp only [storeRecord, storeMessage]
    repeat' split
    all_goals simp
  | patternGroups =>
    simp only [storeRecord, storePattern, storeGroup, storeLine]
    repeat' split
    all_goals simp
  | results | rxRing | peers | board | faultRecord | channels => rfl

/-- Offering records one at a time keeps what the owner's store keeps, whatever ends the offer. -/
theorem offerRecords_cmdSeq (t : Table) {store : Nat → List Byte → State → State × Stored}
    (hstore : ∀ i r u, (store i r u).1.cml.cmdSeq = u.cml.cmdSeq) (first : Nat) (rs : List (List Byte)) :
    ∀ (n : Nat) (adj : List Nat) (s : State), (offerRecords t store first rs n adj s).1.cml.cmdSeq = s.cml.cmdSeq := by
  induction rs with
  | nil =>
    intro n adj s
    simp only [offerRecords]
    split <;> simp
  | cons r rs ih =>
    intro n adj s
    simp only [offerRecords]
    split <;> split <;> simp [ih, hstore]

@[simp] theorem readTable_cmdSeq (t : Table) (first count : Nat) : (readTable t first count s).1.cml.cmdSeq = s.cml.cmdSeq := by
  simp only [readTable, readFrom]
  split <;> simp

end Sys2Proof.Machine
end

section
/-! SUPPORT. Each owner of a link command keeps the command sequence value. -/

namespace Sys2Proof.Machine

/-- An owner leaves the command sequence value to the link, which advances it with the response (R173). -/
def KeepsCmdSeq (owner : List Byte → State → State × Reply) : Prop :=
  ∀ bs s, (owner bs s).1.cml.cmdSeq = s.cml.cmdSeq

theorem ownConfigure_keepsCmdSeq : KeepsCmdSeq ownConfigure := by
  intro bs s
  unfold ownConfigure
  split <;> simp [refused]

theorem ownGetStatus_keepsCmdSeq : KeepsCmdSeq ownGetStatus := fun _ _ => rfl

theorem ownReadRecords_keepsCmdSeq : KeepsCmdSeq ownReadRecords := by
  intro bs s
  unfold ownReadRecords
  split
  · rfl
  · split <;> simp [refused]

theorem ownReadNext_keepsCmdSeq : KeepsCmdSeq ownReadNext := by
  intro bs s
  unfold ownReadNext
  split
  · split <;> simp [refused]
  · rfl

theorem ownWrite_keepsCmdSeq : KeepsCmdSeq ownWrite := by
  intro bs s
  unfold ownWrite
  split
  · rfl
  · split
    · rfl
    · exact offerRecords_cmdSeq _ (fun i r u => storeRecord_cmdSeq u _ i r) _ _ 0 [] s

theorem ownReadEvents_keepsCmdSeq : KeepsCmdSeq ownReadEvents := fun _ _ => rfl

theorem ownClamp_keepsCmdSeq : KeepsCmdSeq ownClamp := by
  intro bs s
  unfold ownClamp
  split <;> rfl

theorem ownUnclamp_keepsCmdSeq : KeepsCmdSeq ownUnclamp := by
  intro bs s
  unfold ownUnclamp
  split <;> rfl

theorem ownPowerOn_keepsCmdSeq : KeepsCmdSeq ownPowerOn := by
  intro bs s
  unfold ownPowerOn
  repeat' split
  all_goals rfl

theorem ownPowerOff_keepsCmdSeq : KeepsCmdSeq ownPowerOff := by
  intro bs s
  unfold ownPowerOff
  split
  · simp
  · split <;> simp [refused]

theorem ownSwitchSource_keepsCmdSeq : KeepsCmdSeq ownSwitchSource := by
  intro bs s
  unfold ownSwitchSource
  repeat' split
  all_goals simp [refused]

theorem ownSetChannel_keepsCmdSeq : KeepsCmdSeq ownSetChannel := by
  intro bs s
  unfold ownSetChannel
  repeat' split
  all_goals simp [refused]

theorem ownSetDiscretes_keepsCmdSeq : KeepsCmdSeq ownSetDiscretes := by
  intro bs s
  unfold ownSetDiscretes
  repeat' split
  all_goals simp [refused]

theorem ownSetHold_keepsCmdSeq (hold : Bool) : KeepsCmdSeq (ownSetHold hold) := by
  intro bs s
  unfold ownSetHold
  split <;> rfl

theorem ownSendOnce_keepsCmdSeq : KeepsCmdSeq ownSendOnce := by
  intro bs s
  simp only [ownSendOnce]
  repeat' split
  all_goals rfl

theorem ownClearPattern_keepsCmdSeq : KeepsCmdSeq ownClearPattern := by
  intro bs s
  simp only [ownClearPattern]
  split <;> rfl

/-- Arming a set of checks writes the checks, and then works off what starts at once. -/
theorem armSet_cmdSeq (is : List CheckIdx) (s : State) : (armSet is s).cml.cmdSeq = s.cml.cmdSeq := by
  simp only [armSet, settleWork_cmdSeq, startList_frame]
  exact foldl_keeps (·.cml.cmdSeq) _ (fun t i => by simp) is _

theorem ownArm_keepsCmdSeq : KeepsCmdSeq ownArm := by
  intro bs s
  simp only [ownArm]
  repeat' split
  all_goals simp [refused, armSet_cmdSeq]

theorem ownDisarm_keepsCmdSeq : KeepsCmdSeq ownDisarm := by
  intro bs s
  simp [ownDisarm]

theorem ownClearResults_keepsCmdSeq : KeepsCmdSeq ownClearResults := fun _ _ => rfl

theorem ownPublish_keepsCmdSeq : KeepsCmdSeq ownPublish := fun _ _ => rfl

theorem ownPrompt_keepsCmdSeq : KeepsCmdSeq ownPrompt := by
  intro bs s
  simp only [ownPrompt]
  repeat' split
  all_goals simp [refused]

theorem ownCancelPrompt_keepsCmdSeq : KeepsCmdSeq ownCancelPrompt := by
  intro bs s
  unfold ownCancelPrompt
  repeat' split
  all_goals simp [refused]

theorem ownResume_keepsCmdSeq : KeepsCmdSeq ownResume := by
  intro bs s
  simp only [ownResume]
  repeat' split
  all_goals simp [refused, closeRecord]

theorem ownAbandon_keepsCmdSeq : KeepsCmdSeq ownAbandon := by
  intro bs s
  simp only [ownAbandon]
  split <;> simp [refused, closeRecord]

end Sys2Proof.Machine
end

section
/-! SUPPORT. The tests of R173: the rows of the command table against the tests that the link makes, and what a command write comes to. -/

namespace Sys2Proof.Machine

variable {c : Instr} {r : LinkRow} {p : Params} {s : State} {code n : Nat} {allowed : Nat → Bool} {test : ConfigTest}
  {gate : Gate} {owner : List Byte → State → State × Reply}

/-! ### The lengths of WRITE_RECORDS (R173, R176) -/

theorem field_zero_one (bs : List Byte) : field bs 0 1 = (bs.headD 0).toNat := by
  cases bs <;> simp [field, leNat]

theorem recordSize_pos {t : Table} {size : Nat} (h : t.recordSize = some size) : 0 < size := by
  cases t <;> simp [Table.recordSize] at h <;> omega

/-- A length is a header and 1 to 8 whole records exactly where the rest is a multiple of the record size of at most 8. -/
theorem wholeRecords_iff {size : Nat} (hsize : 0 < size) (len : Nat) :
    (2 ≤ len ∧ ∃ k < 8, len = 2 + (k + 1) * size) ↔ 2 < len ∧ (len - 2) % size = 0 ∧ (len - 2) / size ≤ 8 := by
  constructor
  · rintro ⟨-, k, hk, rfl⟩
    have hrest : 2 + (k + 1) * size - 2 = (k + 1) * size := by omega
    have hpos : 0 < (k + 1) * size := Nat.mul_pos k.succ_pos hsize
    rw [hrest, Nat.mul_mod_left, Nat.mul_div_cancel _ hsize]
    omega
  · rintro ⟨hlen, hmod, hcount⟩
    obtain ⟨count, hrest⟩ := Nat.dvd_of_mod_eq_zero hmod
    rw [hrest, Nat.mul_div_cancel_left _ hsize] at hcount
    cases count with
    | zero => omega
    | succ k =>
      rw [Nat.mul_comm] at hrest
      exact ⟨by omega, k, by omega, by omega⟩

/-- The command table and the link allow the same lengths of a write. -/
theorem writeLengths_eq_writeAllowed (bs : List Byte) : writeLengths bs = writeAllowed bs := by
  funext n
  rw [writeAllowed, field_zero_one]
  cases bs with
  | nil => rfl
  | cons b bs =>
    simp only [writeLengths, List.head?_cons, List.headD_cons]
    cases hsize : (Table.ofCode b.toNat).bind Table.recordSize with
    | none => rfl
    | some size =>
      obtain ⟨t, -, ht⟩ := Option.bind_eq_some_iff.mp hsize
      have hwhole := wholeRecords_iff (recordSize_pos ht) n
      rw [Bool.eq_iff_iff]
      simp only [Bool.and_eq_true, List.any_eq_true, List.mem_range, decide_eq_true_eq]
      rw [and_right_comm, hwhole]
      tauto

theorem writeLengths_le {bs : List Byte} {n : Nat} (h : writeLengths bs n = true) : n ≤ 250 := by
  unfold writeLengths at h
  split at h
  · simp_all
  · split at h <;> simp_all

/-! ### The rows of the command table -/

/-- The tests that the link makes for a command are those of its row: the same lengths, none above the 250 of 10.1, the same outcome of test 3, and the same modes. -/
structure RowTests (r : LinkRow) (allowed : Nat → Bool) (test : ConfigTest) (gate : Gate) : Prop where
  lengths   : r.allowed = allowed
  bounded   : ∀ n, r.allowed n = true → n ≤ 250
  configure : ∀ b, test.refusal b =
    if r.once = true ∧ b = true then some .alreadyConfigured
    else if r.early = false ∧ b = false then some .notConfigured else none
  modes     : ∀ m, gate.passes m = decide (m ∈ r.modes)

theorem allModes_passes (m : Mode) : Gate.every.passes m = decide (m ∈ allModes) := by
  cases m <;> rfl

theorem notLockout_passes (m : Mode) : Gate.notLockout.passes m = decide (m ∈ [Mode.normal, .halted, .fault]) := by
  cases m <;> rfl

/-- A row of one length `n`. -/
theorem rowTests_exactly {early once : Bool} {modes : List Mode} (hn : n ≤ 250)
    (hconf : ∀ b, test.refusal b = if once = true ∧ b = true then some .alreadyConfigured
      else if early = false ∧ b = false then some .notConfigured else none)
    (hmodes : ∀ m, gate.passes m = decide (m ∈ modes)) :
    RowTests { code := code, allowed := fun k => decide (k = n), early := early, once := once, modes := modes }
      (exactly n) test gate where
  lengths := rfl
  bounded _ h := (of_decide_eq_true h).le.trans hn
  configure := hconf
  modes := hmodes

theorem plainRow_tests (hn : n ≤ 250) : RowTests (plainRow code n p).1 (exactly n) .needed .normalHalted :=
  rowTests_exactly hn (by decide) fun m => by cases m <;> rfl

/-- The rows passed before CONFIGURE and in every mode. -/
theorem freeRow_tests (hn : n ≤ 250) :
    RowTests { code := code, allowed := fun k => decide (k = n), early := true, once := false, modes := allModes }
      (exactly n) .free .every :=
  rowTests_exactly hn (by decide) allModes_passes

theorem configureRow_tests (hn : n ≤ 250) :
    RowTests { code := code, allowed := fun k => decide (k = n), early := true, once := true, modes := allModes }
      (exactly n) .once .every :=
  rowTests_exactly hn (by decide) allModes_passes

/-- The rows of FAULT_RESUME and FAULT_ABANDON. -/
theorem faultRow_tests (hn : n ≤ 250) :
    RowTests { code := code, allowed := fun k => decide (k = n), early := false, once := false,
               modes := [.normal, .halted, .fault] } (exactly n) .needed .notLockout :=
  rowTests_exactly hn (by decide) notLockout_passes

theorem writeRow_tests (p : Params) : RowTests (writeRow p).1 (writeAllowed p.bytes) .needed .notLockout where
  lengths := writeLengths_eq_writeAllowed p.bytes
  bounded _ := writeLengths_le
  configure := fun b => by cases b <;> rfl
  modes := notLockout_passes

/-! ### What a command write comes to -/

/-- Tests 2 to 4 as the row states them are those the link makes. -/
theorem RowTests.firstRefusal_eq (h : RowTests r allowed test gate) (s : State) :
    firstRefusal r p s = linkRefusal allowed test gate p s := by
  unfold firstRefusal linkRefusal
  rw [h.configure, h.modes, h.lengths]
  split_ifs <;> simp_all

/-- A length above 250 is refused at test 2. -/
theorem RowTests.refused_of_lengthOpen (h : RowTests r allowed test gate) (hopen : lengthOpen r p) :
    linkRefusal allowed test gate p s = some .lengthError := by
  obtain ⟨-, -, hlong, -⟩ := hopen
  have hallowed : allowed p.len = false := by
    rw [← h.lengths]
    exact Bool.eq_false_iff.mpr fun ha => absurd (h.bounded _ ha) (by omega)
  simp [linkRefusal, hallowed]

/-- A placed response takes the next command sequence value and sets the unread mark (R173, R174). -/
theorem placeResponse_cml (b : Byte) (y : Reply) (t : State) :
    (placeResponse b y t).cml = { t.cml with
      response := some { status := y.status, code := b, seq := (t.cml.cmdSeq + 1) % 256, data := y.data }
      unread := true, cmdSeq := (t.cml.cmdSeq + 1) % 256 } := rfl

/-- What R173 asks of a command write with this row: a refusal at tests 2 to 4 changes the response alone, and otherwise the response is the owner's. -/
def JudgedInTurn (o : Answered) (r : LinkRow) (p : Params) (s : State) : Prop :=
  (∀ st, ¬lengthOpen r p → firstRefusal r p s = some st → answersAs o r.code st [] s s) ∧
  (lengthOpen r p → ∃ st, answersAs o r.code st [] s s) ∧
  (firstRefusal r p s = none → ∃ t st data, o = .next t ∧ t.cml.unread = true ∧
    t.cml.cmdSeq = (s.cml.cmdSeq + 1) % 256 ∧
    t.cml.response = some { status := st, code := BitVec.ofNat 8 r.code, seq := (s.cml.cmdSeq + 1) % 256, data := data })

/-- The link judges a command whose tests are those of its row, and whose owner leaves the command sequence to it, as R173 asks. -/
theorem linkCommand_judgedInTurn (htests : RowTests r allowed test gate) (howner : KeepsCmdSeq owner)
    (hexec : exec c s = .next (linkCommand r.code allowed test gate p owner s)) : JudgedInTurn (exec c s) r p s := by
  rw [hexec]
  refine ⟨fun st _ h => ?_, fun h => ⟨.lengthError, ?_⟩, fun h => ?_⟩
  · rw [htests.firstRefusal_eq] at h
    exact linkCommand_answersAs_refusal h
  · exact linkCommand_answersAs_refusal (htests.refused_of_lengthOpen h)
  · rw [htests.firstRefusal_eq] at h
    have hseq : (owner p.bytes (shiftStatus s)).1.cml.cmdSeq = s.cml.cmdSeq := howner _ _
    refine ⟨_, (owner p.bytes (shiftStatus s)).2.status, (owner p.bytes (shiftStatus s)).2.data, rfl, ?_⟩
    rw [linkCommand_taken h, placeResponse_cml, hseq]
    exact ⟨rfl, rfl, rfl⟩

theorem plainRow_judgedInTurn (hn : n ≤ 250) (howner : KeepsCmdSeq owner)
    (hexec : exec c s = .next (linkCommand code (exactly n) .needed .normalHalted p owner s)) :
    JudgedInTurn (exec c s) (plainRow code n p).1 p s :=
  linkCommand_judgedInTurn (plainRow_tests hn) howner hexec

/-- Each link command is the link's judgement of its row, before the owner that the command table names. -/
theorem linkRow_judgedInTurn (h : linkRow c = some (r, p)) (s : State) : JudgedInTurn (exec c s) r p s := by
  cases c <;> cases h
  case configure => exact linkCommand_judgedInTurn (configureRow_tests (by decide)) ownConfigure_keepsCmdSeq rfl
  case getStatus => exact linkCommand_judgedInTurn (freeRow_tests (by decide)) ownGetStatus_keepsCmdSeq rfl
  case readRecords => exact linkCommand_judgedInTurn (freeRow_tests (by decide)) ownReadRecords_keepsCmdSeq rfl
  case readNext => exact linkCommand_judgedInTurn (freeRow_tests (by decide)) ownReadNext_keepsCmdSeq rfl
  case readEvents => exact linkCommand_judgedInTurn (freeRow_tests (by decide)) ownReadEvents_keepsCmdSeq rfl
  case writeRecords | writeChecks | writeTxSlots | writeRxFilters | writeMessages | writePatternGroups | writeLineConditioning =>
    exact linkCommand_judgedInTurn (writeRow_tests p) ownWrite_keepsCmdSeq rfl
  case clamp => exact plainRow_judgedInTurn (by decide) ownClamp_keepsCmdSeq rfl
  case unclamp => exact plainRow_judgedInTurn (by decide) ownUnclamp_keepsCmdSeq rfl
  case powerOn => exact plainRow_judgedInTurn (by decide) ownPowerOn_keepsCmdSeq rfl
  case powerOff => exact plainRow_judgedInTurn (by decide) ownPowerOff_keepsCmdSeq rfl
  case switchSource => exact plainRow_judgedInTurn (by decide) ownSwitchSource_keepsCmdSeq rfl
  case setChannel => exact plainRow_judgedInTurn (by decide) ownSetChannel_keepsCmdSeq rfl
  case setDiscretes => exact plainRow_judgedInTurn (by decide) ownSetDiscretes_keepsCmdSeq rfl
  case holdStaging => exact plainRow_judgedInTurn (by decide) (ownSetHold_keepsCmdSeq true) rfl
  case releaseStaging => exact plainRow_judgedInTurn (by decide) (ownSetHold_keepsCmdSeq false) rfl
  case vnSendOnce => exact plainRow_judgedInTurn (by decide) ownSendOnce_keepsCmdSeq rfl
  case clearPattern => exact plainRow_judgedInTurn (by decide) ownClearPattern_keepsCmdSeq rfl
  case armChecks => exact plainRow_judgedInTurn (by decide) ownArm_keepsCmdSeq rfl
  case disarmChecks => exact plainRow_judgedInTurn (by decide) ownDisarm_keepsCmdSeq rfl
  case clearResults => exact plainRow_judgedInTurn (by decide) ownClearResults_keepsCmdSeq rfl
  case publishResult => exact plainRow_judgedInTurn (by decide) ownPublish_keepsCmdSeq rfl
  case prompt => exact plainRow_judgedInTurn (by decide) ownPrompt_keepsCmdSeq rfl
  case cancelPrompt => exact plainRow_judgedInTurn (by decide) ownCancelPrompt_keepsCmdSeq rfl
  case faultResume => exact linkCommand_judgedInTurn (faultRow_tests (by decide)) ownResume_keepsCmdSeq rfl
  case faultAbandon => exact linkCommand_judgedInTurn (faultRow_tests (by decide)) ownAbandon_keepsCmdSeq rfl

/-- Test 1: an unknown code is refused before any other test, with the code as written. -/
theorem unknownCommand_answersAs (b : Byte) (p : Params) (s : State) :
    answersAs (exec (.unknownCommand b p) s) b.toNat .unknownCommand [] s s := by
  have h := answersAs_placeResponse (s := s) (t := s) (code := b.toNat) (refuse .unknownCommand) rfl
  rw [BitVec.ofNat_toNat, BitVec.setWidth_eq] at h
  exact h

/-- Settles O12: each link command by its row of the command table, and the unknown code apart. -/
theorem linkTestsInTurn : Obligations.LinkTestsInTurn :=
  ⟨fun _ _ _ s h => linkRow_judgedInTurn h s, unknownCommand_answersAs⟩

end Sys2Proof.Machine
end
